-- ==== Sys2Proof/Word.lean ====
section
/-! DEFINITION. The value types of the machine: unsigned words of fixed width (00_scope R10) and the rendered texts. -/

namespace Sys2Proof

/-- A whole 32-bit value: the counter, the deadline, the decoder's intermediate values (R7, R23). -/
abbrev Word := BitVec 32

/-- One half of the counter, or the sentinel: 16 bits (R7, R60). -/
abbrev Half := BitVec 16

/-- The 8-bit operation code (R80), and the width of an MDAYS entry (R33). -/
abbrev Byte := BitVec 8

/-- A rendered text, character by character (R49, R159). The sink is opaque, so nothing is said of fonts or bytes. -/
abbrev Text := List Char

end Sys2Proof
end

