-- ==== Sys2Proof/Syntax.lean ====
section
/-! DEFINITION. The 34 coded operations with their arguments (30_encoding R81 to R86), the argument port, the agents,
and the written trace lines of R92 and R94. -/

namespace Sys2Proof

/-- The two oscillator sources of SELOSC (R86): INTERNAL = 0, EXTERNAL = 1. -/
inductive OscSource where
  | internal
  | external
deriving DecidableEq, Repr, Inhabited

/-- The three pins the source names (R50, R60). They are distinct by construction, the constraint of R8 and R264. -/
inductive Pin where
  | relay
  | diag
  | edge
deriving DecidableEq, Repr, Inhabited

/-- The outcome a DISPLAY_INIT notice carries (R86). -/
inductive InitOutcome where
  | ok
  | failed
deriving DecidableEq, Repr, Inhabited

/-- The three notices of the diagnostic stream (R86, R169). -/
inductive Notice where
  | oscTimeout
  | alarmFired
  | displayInit (outcome : InitOutcome)
deriving DecidableEq, Repr, Inhabited

/-- A coordinate pair of the opaque display (R49, R158). -/
structure Pos where
  x : Int
  y : Int
deriving DecidableEq, Repr, Inhabited

/-- The agents that issue coded operations (R12, R93). -/
inductive Agent where
  | seq
  | host
  | edge
deriving DecidableEq, Repr, Inhabited

/-- The coded operations, one constructor per row of opcode_table.json, each with what its format puts on ARG (R81). -/
inductive Instr where
  | rdh
  | rdl
  | cfgpre (divisor : Word)
  | setcnt (value : Word)
  | setalr (value : Word)
  | enirq
  | clrtick
  | clralr
  | rdsent
  | wrsent (value : Half)
  | rstbkp
  | selosc (source : OscSource)
  | waitsync
  | unlockbkp
  | rstcause
  | oscrdy
  | reghandler
  | rdflags
  | dsprdy
  | clrbuf
  | drawtext (pos : Pos) (text : Text)
  | commit
  | setlvl (pin : Pin) (level : Bool)
  | rdlvl (pin : Pin)
  | log (notice : Notice)
  | asm32
  | tzsub
  | hms
  | wday
  | yearinit
  | yearstep
  | doyset
  | febfix
  | monscan
deriving DecidableEq, Repr

/-- The argument port ARG (R80, R81): a bundle of lines of which a format carries some. `bits` is ARG[31:0] of the
formats A16, A32 and A1. Pins, positions, texts and notices have no bit-level encoding in the spec and travel as they are. -/
structure Arg where
  bits : Word
  pin : Pin
  level : Bool
  pos : Pos
  text : Text
  notice : Notice
deriving DecidableEq, Repr

/-- The port with nothing on it. DESIGN CHOICE (log 20): every line at its zero or first value. -/
def Arg.zero : Arg :=
  { bits := 0#32, pin := .relay, level := false, pos := ⟨0, 0⟩, text := [], notice := .oscTimeout }

/-- One move of the whole machine: an agent takes its next step, or one of the steps without operation code happens
(R94), or HOST tells how the display sink's own initialisation ended, outside INIT (R210, R247): `displayFailed` is FC2 with its
notice, `displayNotice` the notice of the good outcome. -/
inductive Move where
  | seq
  | host
  | edge
  | displayFailed
  | displayNotice
  | ctrInc
  | ctrSync
  | displayUp
  | reset (por pin : Bool)
  | backupLoss (por pin : Bool)
  | envEdge
  | envOsc
deriving DecidableEq, Repr, Inhabited

/-- A line of a trace (R92): a move, or a line that names the operation word and ARG that an agent issues next. -/
inductive Line where
  | move (m : Move)
  | op (agent : Agent) (word : Byte) (arg : Arg)
deriving DecidableEq, Repr

end Sys2Proof
end

