-- ==== Sys2Proof/Config.lean ====
section
/-! DEFINITION. What the spec leaves open: the parameters of 00_scope R8, the draws of R11, the interleaving of R12 and
the names and positions of the rendered texts (R158, R159). -/

namespace Sys2Proof

/-- Where the full tick path clears TICKF (R8, R153, D17). -/
inductive ClearPoint where
  | entry
  | exit
deriving DecidableEq, Repr, Inhabited

/-- The build's parameters (R8), as far as a rule computes with them or branches on them. State carries one of these
and no step writes it, so a claim about every state holds for every value. -/
structure Params where
  sentinel : Half
  bkpReset : Half
  seed : Word
  oscSource : OscSource
  prescInternal : Word
  prescExternal : Word
  prescW : Nat
  oscWaitIters : Nat
  relayOff : Bool
  clearPoint : ClearPoint
  edgePreempts : Bool
deriving DecidableEq, Repr

namespace Config

/-- The environment's draws (R11): nothing is known of any value of this function. Draw n of width w is the low w
bits of `free n`. -/
opaque free : Nat → Word

/-- The next agent to step where no trace says which (R12, R71): a free choice. -/
opaque freeMove : Nat → Move

/-- MONTH_NAME (R8, R159), free outside 1..12. -/
opaque monthName : BitVec 4 → Text

/-- WEEKDAY_NAME (R8, R159), free outside 0..6. -/
opaque weekdayName : BitVec 3 → Text

/-- POS_TOP, POS_SECOND and POS_BOTTOM(text) (R8, R158). -/
opaque posTop : Pos
opaque posSecond : Pos
opaque posBottom : Text → Pos

/-- The open parameters of the build that State.reset carries (R8), before the constraints are applied. -/
opaque sentinel : Half
opaque bkpResetRaw : Half
opaque seed : Word
opaque oscSource : OscSource
opaque prescInternalRaw : Word
opaque prescExternalRaw : Word
opaque prescWRaw : Nat
opaque oscWaitItersRaw : Nat
opaque relayOff : Bool

end Config

/-- The constraints of R8 and R243: SENTINEL ≠ BKP_RESET_VALUE, PRESC_W at most 32, PRESC_DIV fits in PRESC_W, and
OSC_WAIT_ITERS "about 1000". DESIGN CHOICE (log 37): about 1000 is 500 to 1499, what rounds to one thousand. -/
def Params.wf (p : Params) : Bool :=
  p.sentinel != p.bkpReset && decide (p.prescW ≤ 32) &&
    decide (p.prescInternal.toNat < 2 ^ p.prescW) && decide (p.prescExternal.toNat < 2 ^ p.prescW) &&
    decide (500 ≤ p.oscWaitIters) && decide (p.oscWaitIters < 1500)

namespace Config

/-- PRESC_W, at most 32 (R8). -/
def prescW : Nat := min prescWRaw 32

/-- BKP_RESET_VALUE, any value but SENTINEL (R8, R243). -/
def bkpReset : Half := if bkpResetRaw = sentinel then ~~~ sentinel else bkpResetRaw

/-- OSC_WAIT_ITERS, free within "about 1000" (R8; log 37). -/
def oscWaitIters : Nat := 500 + oscWaitItersRaw % 1000

/-- The parameters State.reset carries: the open ones free within their constraints, TICK_CLEAR_POINT and EDGE_PREEMPTS
at the defaults the spec names (D17: EXIT; D24: true). -/
def params : Params :=
  { sentinel := sentinel
    bkpReset := bkpReset
    seed := seed
    oscSource := oscSource
    prescInternal := BitVec.ofNat 32 (prescInternalRaw.toNat % 2 ^ prescW)
    prescExternal := BitVec.ofNat 32 (prescExternalRaw.toNat % 2 ^ prescW)
    prescW := prescW
    oscWaitIters := oscWaitIters
    relayOff := relayOff
    clearPoint := .exit
    edgePreempts := true }

end Config

end Sys2Proof
end

