-- ==== Sys2Proof/WellFormed.lean ====
section
/-! DEFINITION. Which operations are well formed under given parameters: the arguments fit the fields the formats give
them (30_encoding R81, 00_scope R8). -/

namespace Sys2Proof

/-- An operation is well formed when its argument fits its format. The types make every argument fit but one: the
divisor of CFGPRE is a PRESC_W-bit value (R81, R65). -/
def Instr.wf (p : Params) (i : Instr) : Bool :=
  match i with
  | .cfgpre divisor => decide (divisor.toNat < 2 ^ p.prescW)
  | .rdh | .rdl | .setcnt _ | .setalr _ | .enirq | .clrtick | .clralr | .rdsent | .wrsent _ | .rstbkp
  | .selosc _ | .waitsync | .unlockbkp | .rstcause | .oscrdy | .reghandler | .rdflags
  | .dsprdy | .clrbuf | .drawtext _ _ | .commit | .setlvl _ _ | .rdlvl _ | .log _
  | .asm32 | .tzsub | .hms | .wday | .yearinit | .yearstep | .doyset | .febfix | .monscan => true

end Sys2Proof
end

