-- ==== Sys2Proof/Decode.lean ====
section
/-! DEFINITION. The operation word (30_encoding R80 to R90): decoding, total on every 8-bit code with whatever stands on
ARG, and the encoder. -/

namespace Sys2Proof

/-- Why the decoder refuses a word: the code is one of the 222 reserved ones (R90). -/
inductive DecodeError where
  | reservedCode (code : Byte)
deriving DecidableEq, Repr

/-- ARG[0] as an oscillator source (R81 format A1, R86). -/
def oscSourceOfArg (bits : Word) : OscSource :=
  if bits.getLsbD 0 then .external else .internal

/-- The code of an oscillator source on ARG[0] (R86). -/
def argOfOscSource (source : OscSource) : Word :=
  match source with
  | .internal => 0#32
  | .external => 1#32

/-- The operation that the code names, with the arguments that its format takes from ARG (R81, R83 to R85). -/
def decode (word : Byte) (arg : Arg) : Except DecodeError Instr :=
  match word.toNat with
  | 0x01 => .ok .rdh
  | 0x02 => .ok .rdl
  | 0x03 => .ok (.cfgpre arg.bits)
  | 0x04 => .ok (.setcnt arg.bits)
  | 0x05 => .ok (.setalr arg.bits)
  | 0x06 => .ok .enirq
  | 0x07 => .ok .clrtick
  | 0x08 => .ok .clralr
  | 0x09 => .ok .rdsent
  | 0x0A => .ok (.wrsent (arg.bits.setWidth 16))
  | 0x0B => .ok .rstbkp
  | 0x0C => .ok (.selosc (oscSourceOfArg arg.bits))
  | 0x0D => .ok .waitsync
  | 0x0E => .ok .unlockbkp
  | 0x0F => .ok .rstcause
  | 0x10 => .ok .oscrdy
  | 0x11 => .ok .reghandler
  | 0x12 => .ok .rdflags
  | 0x20 => .ok .dsprdy
  | 0x21 => .ok .clrbuf
  | 0x22 => .ok (.drawtext arg.pos arg.text)
  | 0x23 => .ok .commit
  | 0x30 => .ok (.setlvl arg.pin arg.level)
  | 0x31 => .ok (.rdlvl arg.pin)
  | 0x40 => .ok (.log arg.notice)
  | 0x80 => .ok .asm32
  | 0x81 => .ok .tzsub
  | 0x82 => .ok .hms
  | 0x83 => .ok .wday
  | 0x84 => .ok .yearinit
  | 0x85 => .ok .yearstep
  | 0x86 => .ok .doyset
  | 0x87 => .ok .febfix
  | 0x88 => .ok .monscan
  | _ => .error (.reservedCode word)

/-- The operation code of an operation (R83 to R85). -/
def encodeWord (i : Instr) : Byte :=
  match i with
  | .rdh => 0x01#8
  | .rdl => 0x02#8
  | .cfgpre _ => 0x03#8
  | .setcnt _ => 0x04#8
  | .setalr _ => 0x05#8
  | .enirq => 0x06#8
  | .clrtick => 0x07#8
  | .clralr => 0x08#8
  | .rdsent => 0x09#8
  | .wrsent _ => 0x0A#8
  | .rstbkp => 0x0B#8
  | .selosc _ => 0x0C#8
  | .waitsync => 0x0D#8
  | .unlockbkp => 0x0E#8
  | .rstcause => 0x0F#8
  | .oscrdy => 0x10#8
  | .reghandler => 0x11#8
  | .rdflags => 0x12#8
  | .dsprdy => 0x20#8
  | .clrbuf => 0x21#8
  | .drawtext _ _ => 0x22#8
  | .commit => 0x23#8
  | .setlvl _ _ => 0x30#8
  | .rdlvl _ => 0x31#8
  | .log _ => 0x40#8
  | .asm32 => 0x80#8
  | .tzsub => 0x81#8
  | .hms => 0x82#8
  | .wday => 0x83#8
  | .yearinit => 0x84#8
  | .yearstep => 0x85#8
  | .doyset => 0x86#8
  | .febfix => 0x87#8
  | .monscan => 0x88#8

/-- What an operation's format puts on ARG (R81); the lines it does not use are zero. -/
def encodeArg (i : Instr) : Arg :=
  match i with
  | .cfgpre divisor => { Arg.zero with bits := divisor }
  | .setcnt value => { Arg.zero with bits := value }
  | .setalr value => { Arg.zero with bits := value }
  | .wrsent value => { Arg.zero with bits := value.setWidth 32 }
  | .selosc source => { Arg.zero with bits := argOfOscSource source }
  | .drawtext pos text => { Arg.zero with pos := pos, text := text }
  | .setlvl pin level => { Arg.zero with pin := pin, level := level }
  | .rdlvl pin => { Arg.zero with pin := pin }
  | .log notice => { Arg.zero with notice := notice }
  | .rdh | .rdl | .enirq | .clrtick | .clralr | .rdsent | .rstbkp | .waitsync | .unlockbkp | .rstcause | .oscrdy
  | .reghandler | .rdflags | .dsprdy | .clrbuf | .commit | .asm32 | .tzsub | .hms | .wday | .yearinit | .yearstep
  | .doyset | .febfix | .monscan => Arg.zero

/-- The words of an operation: its code and its ARG (R80). -/
def encode (i : Instr) : Byte × Arg := (encodeWord i, encodeArg i)

/-- The operation the decoder reads from an opcode-table word of `nbits` bits. Every operation word has 8 bits (R80);
ARG is no part of the word and is zero here. -/
def decodeTableWord (nbits w : Nat) : Option Instr :=
  if nbits = 8 ∧ w < 256 then
    match decode (BitVec.ofNat 8 w) Arg.zero with
    | .ok i => some i
    | .error _ => none
  else none

end Sys2Proof
end

