-- ==== Sys2Proof/Machine/State.lean ====
section
/-! DEFINITION. The state of the machine (10_state), its reset value (70_reset R240 to R245), and the reasons a step can stop. -/

namespace Sys2Proof.Machine

/-- The sequencer's STATE (R21): the source's five and the spec's Entry. -/
inductive SeqState where
  | idle
  | entry
  | reading
  | decoding
  | rendering
  | alarmHandling
deriving DecidableEq, Repr

/-- The sequencer state `(STATE, STEP)` (R21): STEP has 4 bits. -/
structure Pc where
  state : SeqState
  step : BitVec 4
deriving DecidableEq, Repr

/-- The oscillator selection register OSC (R40). -/
inductive Osc where
  | none
  | internal
  | external
deriving DecidableEq, Repr

/-- The result port RES (R80, R81): nothing, 16 bits, one flag, or two flags with the first one in bit 1. -/
inductive Res where
  | none
  | q16 (v : Half)
  | q1 (v : BitVec 1)
  | q2 (v : BitVec 2)
deriving DecidableEq, Repr

/-- Counter Register Interface state (R20 (a), R40). PRESC is PRESC_W bits wide; the bits above are 0 (log 21). -/
structure Cri where
  cnt : Word
  alarm : Word
  presc : Word
  osc : Osc
  tickie : Bool
  alrie : Bool
  tickf : Bool
  alrf : Bool
  rsf : Bool
  sent : Half
  bkpwe : Bool
deriving DecidableEq, Repr

/-- The output record CalendarMoment (R30). -/
structure Moment where
  year : BitVec 16
  month : BitVec 4
  date : BitVec 5
  hour : BitVec 5
  minute : BitVec 6
  second : BitVec 6
  weekday : BitVec 3
  doy : BitVec 9
deriving DecidableEq, Repr

/-- The space MDAYS (R33): entry m is the length of month m. -/
structure MonthTable where
  m1 : Byte
  m2 : Byte
  m3 : Byte
  m4 : Byte
  m5 : Byte
  m6 : Byte
  m7 : Byte
  m8 : Byte
  m9 : Byte
  m10 : Byte
  m11 : Byte
  m12 : Byte
deriving DecidableEq, Repr

/-- Block state (R20 (b), R21, R23, R30, R33). `ready` is the DSPRDY result that R152 remembers for (Entry,2). -/
structure Block where
  pc : Pc
  h1 : Half
  l1 : Half
  h2 : Half
  l2 : Half
  raw : Word
  e : Word
  days : Word
  d : Word
  leap : Bool
  leapDays : BitVec 8
  m : BitVec 4
  cum : BitVec 16
  prev : BitVec 16
  cm : Moment
  mdays : MonthTable
  ready : Bool
deriving DecidableEq, Repr

/-- One draw request of the display sink (R49). -/
structure Draw where
  pos : Pos
  text : Text
deriving DecidableEq, Repr

/-- Host-side state (R20 (c), R48 to R50). `sinkInit` is how the display sink's own initialisation ended, none before it has
(R48, R247): it ends in HOST.DISPLAY_UP or in FC2. It is the sink's, no record of a fault class (log 36). -/
structure HostSide where
  displayReady : Bool
  sinkInit : Option InitOutcome
  dbuf : List Draw
  panel : List Draw
  relay : Bool
  diag : Bool
  edgePin : Bool
  logs : List Notice
  hreg : Bool
deriving DecidableEq, Repr

/-- Where HOST is in INIT (R194): at step hpc before its operation; inside step 5 with the wait given up and
LOG(OSC_TIMEOUT) next (R187); inside step 12 with step a of WAITSYNC done (R193); or past INIT. -/
inductive HostPos where
  | step (hpc : Fin 13)
  | oscTimeout
  | syncWait
  | done
deriving DecidableEq, Repr

/-- HOST's position and the results it keeps: (por, pin) of RSTCAUSE, s of RDSENT, the poll count i of R187. -/
structure Boot where
  pos : HostPos
  por : Bool
  pin : Bool
  sent : Half
  polls : Nat
deriving DecidableEq, Repr

/-- Where EDGE is in its run (R168): at rest, or past RDLVL with the level it read. -/
inductive EdgePos where
  | rest
  | toggle (level : Bool)
deriving DecidableEq, Repr

/-- EDGE's position and the number of ENV.EDGE events whose run has not begun. DESIGN CHOICE (log 14). -/
structure Edge where
  pos : EdgePos
  runs : Nat
deriving DecidableEq, Repr

/-- Reset-cause state (R20 (d), R51) and the environment's OSC_READY (R186). -/
structure Env where
  por : Bool
  pinrst : Bool
  oscReady : Bool
deriving DecidableEq, Repr

/-- The ports of the operation word (R80, R81) and the agent that issued it. DESIGN CHOICE (log 19). -/
structure Port where
  op : Byte
  arg : Arg
  res : Res
  issuer : Agent
deriving DecidableEq, Repr

/-- The whole machine. `cfg` holds the build's parameters (R8), which no step writes; `draws` counts the free values
used so far; `sched` is the list of coming steps (R12, R92). The last three are the model's own (logs 4, 8, 9). -/
structure State where
  cfg : Params
  cri : Cri
  blk : Block
  side : HostSide
  boot : Boot
  edge : Edge
  env : Env
  port : Port
  draws : Nat
  sched : List Line
deriving DecidableEq, Repr

/-- Why the machine stops. -/
inductive Fault where
  /-- SEQ is to step at a pc that R170 does not list ("a pc value not in the table is unreachable"). Raised by SEQ's
  move only. Safe: no state that a run reaches has such a pc (log 23). -/
  | unlistedPc
  /-- A table is read at an index that does not exist (R64): MDAYS above 12 by MONSCAN. Raised by MONSCAN, and by WDAY for
  WDTAB above 6, which `DAYS mod 7` never is. Safe: R64 says that no rule produces such an access (log 22). -/
  | noSuchEntry
deriving DecidableEq, Repr

/-- Why a step has no meaning. -/
inductive Refusal where
  /-- An operation of the table that has no meaning in the model yet. No arm of exec answers with it. Safe. -/
  | notModelled (mnemonic : String)
  /-- `refuse("reserved operation code")` (R90, U7). Raised by issuing a word that does not decode. Safe. -/
  | reservedCode (code : Byte)
  /-- `refuse("backup domain locked")` (R68, U4). Raised by the seven backup-domain writes with BKPWE = 0. Safe. -/
  | backupLocked
  /-- `refuse("host protocol violated")` (R91, U5). Raised by an operation HOST issues out of INIT's order. Safe. -/
  | hostProtocol
  /-- An operation SEQ or EDGE is said to issue where R93 does not list it: "a sequence no rule produces" (R91, U5).
  Only a trace line that names the word can do so. Safe. -/
  | offSequence
deriving DecidableEq, Repr

/-- MDAYS after a reset of the block: the Gregorian lengths of R33 (the spec's G1, log 25), February as given (R34). -/
def MonthTable.withFebruary (february : Byte) : MonthTable :=
  { m1 := 31#8, m2 := february, m3 := 31#8, m4 := 30#8, m5 := 31#8, m6 := 30#8
    m7 := 31#8, m8 := 31#8, m9 := 30#8, m10 := 31#8, m11 := 30#8, m12 := 31#8 }

/-- A record with every field 0: what the "no value" fields hold in `State.reset`. DESIGN CHOICE (log 1). -/
def Moment.zero : Moment :=
  { year := 0#16, month := 0#4, date := 0#5, hour := 0#5, minute := 0#6, second := 0#6, weekday := 0#3, doy := 0#9 }

/-- The machine right after reset: the state of a machine whose backup domain was lost and that was then reset by the
pin, ENV.BACKUP_LOSS and ENV.RESET(0,1), the start state of program P5 (R240 to R245; DESIGN CHOICE of the event, log 3).
Fields the spec leaves to a draw hold free values (log 2; the pin levels: log 38); fields to which it gives "no value" hold 0
(DESIGN CHOICE, log 1). Parameters: log 8. -/
def State.reset : State :=
  { cfg := Config.params
    cri :=
      { cnt := Config.free 0
        alarm := Config.free 1
        presc := BitVec.ofNat 32 ((Config.free 2).toNat % 2 ^ Config.params.prescW)
        osc := .none
        tickie := false, alrie := false, tickf := false, alrf := false
        rsf := (Config.free 4).getLsbD 0
        sent := Config.params.bkpReset
        bkpwe := false }
    blk :=
      { pc := ⟨.idle, 0#4⟩
        h1 := 0#16, l1 := 0#16, h2 := 0#16, l2 := 0#16
        raw := 0#32, e := 0#32, days := 0#32, d := 0#32
        leap := false, leapDays := 0#8, m := 0#4, cum := 0#16, prev := 0#16
        cm := Moment.zero
        mdays := MonthTable.withFebruary ((Config.free 3).setWidth 8)
        ready := false }
    side :=
      { displayReady := false, sinkInit := none, dbuf := [], panel := []
        relay := (Config.free 6).getLsbD 0
        diag := (Config.free 7).getLsbD 0
        edgePin := (Config.free 8).getLsbD 0
        logs := []
        hreg := (Config.free 5).getLsbD 0 }
    boot := { pos := .step 0, por := false, pin := false, sent := 0#16, polls := 0 }
    edge := { pos := .rest, runs := 0 }
    env := { por := false, pinrst := true, oscReady := false }
    port := { op := 0#8, arg := Arg.zero, res := .none, issuer := .host }
    draws := 9
    sched := [] }

end Sys2Proof.Machine
end

