-- ==== Sys2Proof/Machine/Ops.lean ====
section
/-! DEFINITION. The named operations over the machine's state: updates of one group of it, draws, positions, the
register spaces of 20_memory R60, entry into the vector and return from it, and the resets. -/

namespace Sys2Proof.Machine

/-! ## Updates of one group -/

def State.withCri (s : State) (c : Cri) : State := { s with cri := c }
def State.withBlk (s : State) (b : Block) : State := { s with blk := b }
def State.withSide (s : State) (h : HostSide) : State := { s with side := h }
def State.withBoot (s : State) (b : Boot) : State := { s with boot := b }
def State.withEdge (s : State) (e : Edge) : State := { s with edge := e }
def State.withEnv (s : State) (e : Env) : State := { s with env := e }
def State.withPort (s : State) (p : Port) : State := { s with port := p }
def State.withSched (s : State) (ls : List Line) : State := { s with sched := ls }

/-! ## Draws (R11) -/

/-- The k-th draw from here on, as a 32-bit value; a narrower draw is its low bits. -/
def State.draw (s : State) (k : Nat) : Word := Config.free (s.draws + k)

/-- The k-th draw from here on, as a bit. -/
def State.drawBit (s : State) (k : Nat) : Bool := (s.draw k).getLsbD 0

/-- The state after `n` draws: the next ones are fresh. -/
def State.drawn (s : State) (n : Nat) : State := { s with draws := s.draws + n }

/-- The low `w` bits of a value, the rest 0: what a register of `w` bits holds of it (R65). -/
def truncTo (w : Nat) (v : Word) : Word := BitVec.ofNat 32 (v.toNat % 2 ^ w)

/-! ## Positions (R21, R93, R170, R194) -/

/-- SEQ issues the operation, and `pc` is `(st, k)`. -/
abbrev State.seqAt (s : State) (st : SeqState) (k : BitVec 4) : Prop :=
  s.port.issuer = .seq ∧ s.blk.pc = ⟨st, k⟩

/-- HOST issues the operation, and its position is `p`. -/
abbrev State.hostAt (s : State) (p : HostPos) : Prop :=
  s.port.issuer = .host ∧ s.boot.pos = p

/-- EDGE may take a step: anywhere if EDGE_PREEMPTS, else only while `pc` = (Idle,0) (R219). -/
abbrev State.edgeMay (s : State) : Prop :=
  s.cfg.edgePreempts = true ∨ s.blk.pc = ⟨.idle, 0#4⟩

/-- `pc <- (st, k)` (R11, R22). -/
def State.goto (s : State) (st : SeqState) (k : BitVec 4) : State :=
  s.withBlk { s.blk with pc := ⟨st, k⟩ }

/-- HOST goes to position `p` (R194). -/
def State.hostGoto (s : State) (p : HostPos) : State :=
  s.withBoot { s.boot with pos := p }

/-- The operation puts `r` on RES (R81). -/
def State.answer (s : State) (r : Res) : State :=
  s.withPort { s.port with res := r }

/-- How an operation issued where R93 does not list it is refused: HOST's by "host protocol violated", another agent's as
a sequence no rule produces (R91, U5). -/
def State.misissued (s : State) : Refusal :=
  match s.port.issuer with
  | .host => .hostProtocol
  | .seq => .offSequence
  | .edge => .offSequence

/-- An operation that SEQ issues at `(st, k)` only, with the effect `f`. -/
def State.atSeq (s : State) (st : SeqState) (k : BitVec 4) (f : State → State) :
    Host.Outcome State Fault Refusal :=
  if s.seqAt st k then .next (f s) else .refused s.misissued

/-- An operation that HOST issues at position `p` only, with the effect `f`. -/
def State.atHost (s : State) (p : HostPos) (f : State → State) : Host.Outcome State Fault Refusal :=
  if s.hostAt p then .next (f s) else .refused s.misissued

/-- A backup-domain write (R68): `requires x[BKPWE] = 1`, else `refuse("backup domain locked")`. The lock is tested
before the position (log 24). -/
def State.whenUnlocked (s : State) (act : Host.Outcome State Fault Refusal) :
    Host.Outcome State Fault Refusal :=
  if s.cri.bkpwe = true then act else .refused .backupLocked

/-! ## Register spaces (R60) -/

/-- WDTAB (R36): the read-only weekday table, index 0..6. -/
def wdtab (i : Nat) : Option (BitVec 3) :=
  match i with
  | 0 => some 4#3
  | 1 => some 5#3
  | 2 => some 6#3
  | 3 => some 0#3
  | 4 => some 1#3
  | 5 => some 2#3
  | 6 => some 3#3
  | _ => none

/-- The entries of MDAYS from month 2 on, in order: what MONSCAN adds after month 1 (R33, R128). -/
def monthsAfterFirst (t : MonthTable) : List Byte :=
  [t.m2, t.m3, t.m4, t.m5, t.m6, t.m7, t.m8, t.m9, t.m10, t.m11, t.m12]

/-- MemRead(CRI:CNTH, 16) and MemRead(CRI:CNTL, 16): the halves of CNT (R41, R62). -/
def cnth (s : State) : Half := s.cri.cnt.extractLsb' 16 16
def cntl (s : State) : Half := s.cri.cnt.extractLsb' 0 16

/-- What RDH and RDL return: the half of CNT if RSF = 1, else a draw (R72, R100, R101). -/
def counterHigh (s : State) : Half := if s.cri.rsf = true then cnth s else (s.draw 0).setWidth 16
def counterLow (s : State) : Half := if s.cri.rsf = true then cntl s else (s.draw 0).setWidth 16

/-- The state after a counter read: a read has no side effect (R67); an unsynchronised one has used a draw. -/
def counterRead (s : State) : State := if s.cri.rsf = true then s else s.drawn 1

/-- LEVEL(pin) (R50). DESIGN CHOICE (log 38): the level of a pin that nothing has written since reset is the draw of U9;
U1's fault for reading it is not taken. -/
def levelOf (h : HostSide) (pin : Pin) : Bool :=
  match pin with
  | .relay => h.relay
  | .diag => h.diag
  | .edge => h.edgePin

/-- `LEVEL(pin) <- level` (R166). -/
def setLevel (h : HostSide) (pin : Pin) (level : Bool) : HostSide :=
  match pin with
  | .relay => { h with relay := level }
  | .diag => { h with diag := level }
  | .edge => { h with edgePin := level }

/-! ## Entry into the shared vector and return from it (R150, R221, R223) -/

/-- VECTOR is enabled: the condition of R150 besides `pc` = (Idle,0). -/
def vectorEnabled (s : State) : Bool :=
  s.side.hreg && ((s.cri.tickf && s.cri.tickie) || (s.cri.alrf && s.cri.alrie))

/-- VECTOR: `pc` goes from (Idle,0) to (Entry,0); nothing is saved, no mode and no mask changes (R150, R221). -/
def enterVector (s : State) : State := s.goto .entry 0#4

/-- Return: `pc <- (Idle,0)`; nothing is restored (R223). -/
def returnToIdle (s : State) : State := s.goto .idle 0#4

/-! ## Resets -/

/-- The loss of the backup domain's contents: the effect of RSTBKP (R184, R243) and of ENV.BACKUP_LOSS (R244); OSC_READY
becomes 0 (R186, R245). CNT, ALARM and PRESC are draws. -/
def loseBackup (s : State) : State :=
  let c : Cri :=
    { s.cri with
      sent := s.cfg.bkpReset
      cnt := s.draw 0
      alarm := s.draw 1
      presc := truncTo s.cfg.prescW (s.draw 2)
      osc := .none
      tickie := false, alrie := false, tickf := false, alrf := false }
  ((s.withCri c).withEnv { s.env with oscReady := false }).drawn 3

/-- The block after a system reset (R240, R241): pc = (Idle,0); MDAYS[2] is a draw; the registers that then hold "no
value" hold free values (log 10). -/
def resetBlock (s : State) : Block :=
  { s.blk with
    pc := ⟨.idle, 0#4⟩
    h1 := (s.draw 0).setWidth 16
    l1 := (s.draw 1).setWidth 16
    h2 := (s.draw 2).setWidth 16
    l2 := (s.draw 3).setWidth 16
    raw := s.draw 4
    e := s.draw 5
    days := s.draw 6
    d := s.draw 7
    leap := s.drawBit 8
    leapDays := (s.draw 9).setWidth 8
    m := (s.draw 10).setWidth 4
    cum := (s.draw 11).setWidth 16
    prev := (s.draw 12).setWidth 16
    cm :=
      { year := (s.draw 13).setWidth 16
        month := (s.draw 14).setWidth 4
        date := (s.draw 15).setWidth 5
        hour := (s.draw 16).setWidth 5
        minute := (s.draw 17).setWidth 6
        second := (s.draw 18).setWidth 6
        weekday := (s.draw 19).setWidth 3
        doy := (s.draw 20).setWidth 9 }
    mdays := MonthTable.withFebruary ((s.draw 21).setWidth 8) }

/-- Host-side state after a system reset (R240, R245): HREG and the pin levels are draws (log 38), the rest is inactive; the
display sink's own initialisation starts again (log 36). -/
def resetSide (s : State) : HostSide :=
  { displayReady := false, sinkInit := none, dbuf := [], panel := [], logs := []
    hreg := s.drawBit 22
    relay := s.drawBit 23
    diag := s.drawBit 24
    edgePin := s.drawBit 25 }

/-- ENV.RESET(por, pin) (R240): the backup domain and OSC_READY are not touched (R242, R245); HOST starts INIT again; a
run of EDGE is cut short (log 16). -/
def systemReset (por pin : Bool) (s : State) : State :=
  (((((s.withBlk (resetBlock s)).withSide (resetSide s)).withCri
    { s.cri with bkpwe := false, rsf := s.drawBit 26 }).withEnv
    { s.env with por := por, pinrst := pin }).withEdge { pos := .rest, runs := 0 }).hostGoto (.step 0) |>.drawn 27

end Sys2Proof.Machine
end

