-- ==== Sys2Proof/Machine/Flags.lean ====
section
/-! DEFINITION. The flags (10_state R45): the leap predicate that LEAP holds (00_scope R13), and how the event and status
flags are set and cleared. No operation writes an arithmetic condition flag: there is none. -/

namespace Sys2Proof.Machine

/-- `isLeap(y)`, the proleptic Gregorian rule (R13). -/
def isLeap (y : Nat) : Bool := (y % 4 == 0 && y % 100 != 0) || y % 400 == 0

/-- `ylen(leap)`: 366 if leap else 365 (R13). -/
def ylen (leap : Bool) : Nat := if leap then 366 else 365

/-- The February entry that FEBFIX writes: 29 if leap else 28 (R127). -/
def february (leap : Bool) : Byte := if leap then 29#8 else 28#8

/-- TICKF <- 0 (R153). -/
def clearTick (c : Cri) : Cri := { c with tickf := false }

/-- ALRF <- 0 (R154). -/
def clearAlarm (c : Cri) : Cri := { c with alrf := false }

/-- CTR.INC's effect on the counter and the two event flags, in the order of R42: the increment modulo 2^32, TICKF, and
ALRF if the new value equals ALARM. A flag that is already 1 stays 1. -/
def increment (c : Cri) : Cri :=
  let n := c.cnt + 1#32
  { c with cnt := n, tickf := true, alrf := c.alrf || n == c.alarm }

/-- CTR.INC is enabled when an oscillator source has been selected, ready or not (R42, R186, U6). -/
def incEnabled (c : Cri) : Bool := c.osc != .none

end Sys2Proof.Machine
end

