-- ==== Sys2Proof/Machine/Operands.lean ====
section
/-! DEFINITION. Operand assembly (30_encoding R86 to R89), the values operations put on RES (R81), the parameters that
play the part of operands (R8), and the rendered texts (42_dispatch R158, R159). -/

namespace Sys2Proof.Machine

/-- `H ++ L`: the high half in bits 31..16, the low half in bits 15..0 (R62, R88). -/
def joinHalves (h l : Half) : Word := h ++ l

/-- RES[0] of the format Q1 (R81). -/
def flagRes (b : Bool) : Res := .q1 (BitVec.ofBool b)

/-- RES of the format Q2: the first flag in bit 1, the second in bit 0 (R81). -/
def flagsRes (first second : Bool) : Res := .q2 (BitVec.ofBool first ++ BitVec.ofBool second)

/-- The value SELOSC puts into OSC (R40, R185). -/
def oscOf (source : OscSource) : Osc :=
  match source with
  | .internal => .internal
  | .external => .external

/-- PRESC_DIV(OSC_SOURCE), the divisor HOST gives to CFGPRE (R8, R188). -/
def prescDiv (p : Params) : Word :=
  match p.oscSource with
  | .internal => p.prescInternal
  | .external => p.prescExternal

/-- `SEED +_32 15`, the deadline HOST gives to SETALR (R87, R190). -/
def alarmSeed (p : Params) : Word := p.seed + 15#32

/-- `cold`, the cold-start decision (R194, R195): ((por = 0) and (s ≠ SENTINEL)) or (pin = 1). -/
def coldStart (por pin : Bool) (sent sentinel : Half) : Bool :=
  (!por && sent != sentinel) || pin

/-- A number in decimal digits, no padding (R159). -/
def decimal (n : Nat) : Text := Nat.toDigits 10 n

/-- A number below 100 as two decimal digits with a leading zero (R159). -/
def twoDigits (n : Nat) : Text := [Nat.digitChar (n / 10), Nat.digitChar (n % 10)]

/-- TOPLINE(CM): month name, space, date, space, year (R159). -/
def topLine (cm : Moment) : Text :=
  Config.monthName cm.month ++ ' ' :: (decimal cm.date.toNat ++ ' ' :: decimal cm.year.toNat)

/-- The second line: the weekday name (R158). -/
def secondLine (cm : Moment) : Text := Config.weekdayName cm.weekday

/-- CLOCK(CM): "HH:MM:SS" (R159). -/
def clockLine (cm : Moment) : Text :=
  twoDigits cm.hour.toNat ++ ':' :: (twoDigits cm.minute.toNat ++ ':' :: twoDigits cm.second.toNat)

end Sys2Proof.Machine
end

