-- ==== Sys2Proof/Machine/CounterRead.lean ====
section
/-! DEFINITION. The counter read family (40_counter_read): RDH, RDL, ASM32, as SEQ issues them in SAFEREAD (R103). -/

namespace Sys2Proof.Machine

/-- RDH (R100): H1 at (Reading,0); H2 at (Reading,2), where the comparison with H1 selects the successor (R103). -/
def execRdh (s : State) : Host.Outcome State Fault Refusal :=
  let v := counterHigh s
  let s' := (counterRead s).answer (.q16 v)
  if s.seqAt .reading 0#4 then
    .next ((s'.withBlk { s.blk with h1 := v }).goto .reading 1#4)
  else if s.seqAt .reading 2#4 then
    .next ((s'.withBlk { s.blk with h2 := v }).goto .reading (if s.blk.h1 = v then 4#4 else 3#4))
  else .refused s.misissued

/-- RDL (R101): L1 at (Reading,1); L2 at (Reading,3), reached only when H1 ≠ H2 (R103). -/
def execRdl (s : State) : Host.Outcome State Fault Refusal :=
  let v := counterLow s
  let s' := (counterRead s).answer (.q16 v)
  if s.seqAt .reading 1#4 then
    .next ((s'.withBlk { s.blk with l1 := v }).goto .reading 2#4)
  else if s.seqAt .reading 3#4 then
    .next ((s'.withBlk { s.blk with l2 := v }).goto .reading 4#4)
  else .refused s.misissued

/-- The reassembled counter value (R102): the second high read with the re-read low half if the high reads differ, else
the first reads. -/
def reassembled (b : Block) : Word :=
  if b.h1 = b.h2 then joinHalves b.h1 b.l1 else joinHalves b.h2 b.l2

/-- ASM32 (R102), at (Reading,4). -/
def execAsm32 (s : State) : Host.Outcome State Fault Refusal :=
  s.atSeq .reading 4#4 fun s =>
    ((s.withBlk { s.blk with raw := reassembled s.blk }).goto .decoding 0#4).answer .none

end Sys2Proof.Machine
end

