-- ==== Sys2Proof/Machine/Decoder.lean ====
section
/-! DEFINITION. The decoder family (41_decoder): the eight compute steps of DECODE (R120). All arithmetic is unsigned; a
result narrower than 32 bits is its low bits, which is the whole value in every decode (R129; log 27). -/

namespace Sys2Proof.Machine

/-- TZSUB (R121): E = RAW − 18000 modulo 2^32, no flag. -/
def execTzsub (s : State) : Host.Outcome State Fault Refusal :=
  s.atSeq .decoding 0#4 fun s =>
    ((s.withBlk { s.blk with e := s.blk.raw - 18000#32 }).goto .decoding 1#4).answer .none

/-- HMS (R122). -/
def execHms (s : State) : Host.Outcome State Fault Refusal :=
  s.atSeq .decoding 1#4 fun s =>
    let e := s.blk.e
    let cm : Moment :=
      { s.blk.cm with
        second := (e % 60#32).setWidth 6
        minute := (e / 60#32 % 60#32).setWidth 6
        hour := (e / 3600#32 % 24#32).setWidth 5 }
    ((s.withBlk { s.blk with cm := cm, days := e / 86400#32 }).goto .decoding 2#4).answer .none

/-- WDAY (R123): the weekday table at DAYS mod 7. The entry always exists (R64). -/
def execWday (s : State) : Host.Outcome State Fault Refusal :=
  if s.seqAt .decoding 2#4 then
    match wdtab (s.blk.days.toNat % 7) with
    | some w =>
      .next (((s.withBlk { s.blk with cm := { s.blk.cm with weekday := w } }).goto .decoding 3#4).answer .none)
    | none => .fault .noSuchEntry
  else .refused s.misissued

/-- YEARINIT (R124). -/
def execYearinit (s : State) : Host.Outcome State Fault Refusal :=
  s.atSeq .decoding 3#4 fun s =>
    let b : Block :=
      { s.blk with
        cm := { s.blk.cm with year := 1970#16 }
        leap := isLeap 1970
        d := s.blk.days
        leapDays := 0#8 }
    ((s.withBlk b).goto .decoding 4#4).answer .none

/-- The registers after a YEARSTEP that subtracts (R125): the year's length goes off D, a leap year counts in LEAPDAYS,
and LEAP is the predicate of the new year. -/
def nextYear (b : Block) : Block :=
  let y := b.cm.year + 1#16
  { b with
    d := b.d - BitVec.ofNat 32 (ylen b.leap)
    leapDays := if b.leap then b.leapDays + 1#8 else b.leapDays
    cm := { b.cm with year := y }
    leap := isLeap y.toNat }

/-- YEARSTEP (R125): one test-and-subtract, including the loop's exit test. -/
def execYearstep (s : State) : Host.Outcome State Fault Refusal :=
  s.atSeq .decoding 4#4 fun s =>
    (if ylen s.blk.leap ≤ s.blk.d.toNat then (s.withBlk (nextYear s.blk)).goto .decoding 4#4
      else s.goto .decoding 5#4).answer .none

/-- DOYSET (R126). -/
def execDoyset (s : State) : Host.Outcome State Fault Refusal :=
  s.atSeq .decoding 5#4 fun s =>
    let cm : Moment := { s.blk.cm with doy := (s.blk.d + 1#32).setWidth 9 }
    ((s.withBlk { s.blk with cm := cm }).goto .decoding 6#4).answer .none

/-- FEBFIX (R127): MemWrite(MDAYS:2, 8, …), the only write of MDAYS. -/
def execFebfix (s : State) : Host.Outcome State Fault Refusal :=
  s.atSeq .decoding 6#4 fun s =>
    ((s.withBlk { s.blk with mdays := { s.blk.mdays with m2 := february s.blk.leap } }).goto .decoding 7#4).answer .none

/-- The scan of R128 from month `m` with `cum` and `prev` on, over the lengths of the months after `m`: the first month
whose cumulative total reaches `doy`. It answers none if it would read past month 12. -/
def monthScan (doy : BitVec 16) (m : BitVec 4) (cum prev : BitVec 16) (after : List Byte) :
    Option (BitVec 4 × BitVec 16 × BitVec 16) :=
  if doy ≤ cum then some (m, cum, prev)
  else
    match after with
    | [] => none
    | len :: rest => monthScan doy (m + 1#4) (cum + len.setWidth 16) cum rest

/-- MONSCAN (R128): M, CUM and PREV as the scan leaves them, CM.month = M, CM.date = CM.doy − PREV. A scan past month 12
reads an entry that does not exist (R64); no decode does (log 22). -/
def execMonscan (s : State) : Host.Outcome State Fault Refusal :=
  if s.seqAt .decoding 7#4 then
    let doy : BitVec 16 := s.blk.cm.doy.setWidth 16
    match monthScan doy 1#4 (s.blk.mdays.m1.setWidth 16) 0#16 (monthsAfterFirst s.blk.mdays) with
    | some (m, cum, prev) =>
      let cm : Moment := { s.blk.cm with month := m, date := (doy - prev).setWidth 5 }
      .next (((s.withBlk { s.blk with m := m, cum := cum, prev := prev, cm := cm }).goto .rendering 0#4).answer .none)
    | none => .fault .noSuchEntry
  else .refused s.misissued

end Sys2Proof.Machine
end

