-- ==== Sys2Proof/Machine/Handler.lean ====
section
/-! DEFINITION. The dispatch family (42_dispatch): the entry test and the guard, the flag clears, the display-sink, digital
output and diagnostic operations. -/

namespace Sys2Proof.Machine

/-- RDFLAGS (R151): tick first, alarm second, at most one; neither set returns without effect. -/
def execRdflags (s : State) : Host.Outcome State Fault Refusal :=
  s.atSeq .entry 0#4 fun s =>
    (if s.cri.tickf then s.goto .entry 1#4
      else if s.cri.alrf then s.goto .alarmHandling 0#4
      else returnToIdle s).answer (flagsRes s.cri.tickf s.cri.alrf)

/-- DSPRDY (R152): the result is remembered for (Entry,2). -/
def execDsprdy (s : State) : Host.Outcome State Fault Refusal :=
  s.atSeq .entry 1#4 fun s =>
    let r := s.side.displayReady
    let s' := (s.withBlk { s.blk with ready := r }).answer (flagRes r)
    if r = false ∨ s.cfg.clearPoint = .entry then s'.goto .entry 2#4 else s'.goto .reading 0#4

/-- CLRTICK (R153), at (Entry,2) or at (Rendering,5). -/
def execClrtick (s : State) : Host.Outcome State Fault Refusal :=
  let s' := (s.withCri (clearTick s.cri)).answer .none
  if s.seqAt .entry 2#4 then
    .next (if s.blk.ready then s'.goto .reading 0#4 else returnToIdle s')
  else if s.seqAt .rendering 5#4 then .next (returnToIdle s')
  else .refused s.misissued

/-- CLRALR (R154), at (AlarmHandling,2). -/
def execClralr (s : State) : Host.Outcome State Fault Refusal :=
  s.atSeq .alarmHandling 2#4 fun s => returnToIdle ((s.withCri (clearAlarm s.cri)).answer .none)

/-- CLRBUF (R162). -/
def execClrbuf (s : State) : Host.Outcome State Fault Refusal :=
  s.atSeq .rendering 0#4 fun s =>
    ((s.withSide { s.side with dbuf := [] }).goto .rendering 1#4).answer .none

/-- DRAWTEXT (R163), at (Rendering,1), (Rendering,2) or (Rendering,3). -/
def execDrawtext (pos : Pos) (text : Text) (s : State) : Host.Outcome State Fault Refusal :=
  if s.seqAt .rendering 1#4 ∨ s.seqAt .rendering 2#4 ∨ s.seqAt .rendering 3#4 then
    .next (((s.withSide { s.side with dbuf := s.side.dbuf ++ [⟨pos, text⟩] }).goto .rendering
      (s.blk.pc.step + 1#4)).answer .none)
  else .refused s.misissued

/-- COMMIT (R164): PANEL becomes DBUF; the successor is R158's. -/
def execCommit (s : State) : Host.Outcome State Fault Refusal :=
  s.atSeq .rendering 4#4 fun s =>
    let s' := (s.withSide { s.side with panel := s.side.dbuf }).answer .none
    match s.cfg.clearPoint with
    | .exit => s'.goto .rendering 5#4
    | .entry => returnToIdle s'

/-- SETLVL (R166): SEQ issues it at (AlarmHandling,0) (R160), EDGE as the second step of its run (R168). -/
def execSetlvl (pin : Pin) (level : Bool) (s : State) : Host.Outcome State Fault Refusal :=
  let s' := (s.withSide (setLevel s.side pin level)).answer .none
  if s.seqAt .alarmHandling 0#4 then .next (s'.goto .alarmHandling 1#4)
  else if s.port.issuer = .edge ∧ s.edge.pos ≠ .rest ∧ s.edgeMay then
    .next (s'.withEdge { s.edge with pos := .rest })
  else .refused s.misissued

/-- RDLVL (R167): EDGE issues it as the first step of a run (R168), which takes one pending ENV.EDGE event.
A pin that nothing has written since reset "holds no value" for R167, and U1 would fault; DESIGN CHOICE (log 38): it answers the
reset's draw (R240, U9). -/
def execRdlvl (pin : Pin) (s : State) : Host.Outcome State Fault Refusal :=
  let l := levelOf s.side pin
  if s.port.issuer = .edge ∧ s.edge.pos = .rest ∧ 0 < s.edge.runs ∧ s.edgeMay then
    .next ((s.withEdge { pos := .toggle l, runs := s.edge.runs - 1 }).answer (flagRes l))
  else .refused s.misissued

/-- LOG (R169): `LOGS <- LOGS ++ [notice]`. SEQ issues it at (AlarmHandling,1) (R160); HOST issues OSC_TIMEOUT where the
ready-wait gave up (R187), and DISPLAY_INIT(outcome) outside INIT's sequence,
wherever HOST is, once the sink's own initialisation has ended with that outcome (R210, R247; log 28). -/
def execLog (notice : Notice) (s : State) : Host.Outcome State Fault Refusal :=
  let s' := (s.withSide { s.side with logs := s.side.logs ++ [notice] }).answer .none
  if s.seqAt .alarmHandling 1#4 then .next (s'.goto .alarmHandling 2#4)
  else if s.port.issuer = .host then
    match notice with
    | .displayInit outcome => if s.side.sinkInit = some outcome then .next s' else .refused .hostProtocol
    | .oscTimeout => if s.boot.pos = .oscTimeout then .next (s'.hostGoto (.step 6)) else .refused .hostProtocol
    | .alarmFired => .refused .hostProtocol
  else .refused s.misissued

end Sys2Proof.Machine
end

