-- ==== Sys2Proof/Machine/Init.lean ====
section
/-! DEFINITION. The initialisation family (43_init): the operations HOST issues in INIT (R194), each at its step hpc. -/

namespace Sys2Proof.Machine

/-- UNLOCKBKP (R180), hpc 0. -/
def execUnlockbkp (s : State) : Host.Outcome State Fault Refusal :=
  s.atHost (.step 0) fun s =>
    ((s.withCri { s.cri with bkpwe := true }).hostGoto (.step 1)).answer .none

/-- RSTCAUSE (R181), hpc 1: RES[1] = POR, RES[0] = PINRST, no side effect; HOST keeps both. -/
def execRstcause (s : State) : Host.Outcome State Fault Refusal :=
  s.atHost (.step 1) fun s =>
    (s.withBoot { s.boot with por := s.env.por, pin := s.env.pinrst, pos := .step 2 }).answer
      (flagsRes s.env.por s.env.pinrst)

/-- RDSENT (R182), hpc 2, and the cold-start decision that follows it (R194, R195): to hpc 3 if cold, else to hpc 12. -/
def execRdsent (s : State) : Host.Outcome State Fault Refusal :=
  s.atHost (.step 2) fun s =>
    let v := s.cri.sent
    let cold := coldStart s.boot.por s.boot.pin v s.cfg.sentinel
    (s.withBoot { s.boot with sent := v, pos := if cold then .step 3 else .step 12 }).answer (.q16 v)

/-- RSTBKP (R184), hpc 3. -/
def execRstbkp (s : State) : Host.Outcome State Fault Refusal :=
  s.whenUnlocked <| s.atHost (.step 3) fun s => ((loseBackup s).hostGoto (.step 4)).answer .none

/-- SELOSC (R185), hpc 4; the ready-wait then starts with i = 0 (R187). -/
def execSelosc (source : OscSource) (s : State) : Host.Outcome State Fault Refusal :=
  s.whenUnlocked <| s.atHost (.step 4) fun s =>
    ((s.withCri { s.cri with osc := oscOf source }).withBoot { s.boot with pos := .step 5, polls := 0 }).answer .none

/-- HOST's position and poll count after one poll of the ready-wait that returned `r` (R187): ready goes on; not ready
polls again, for ever with the internal source, OSC_WAIT_ITERS times with the external one and then to the notice
(log 18). -/
def afterPoll (s : State) (r : Bool) : Boot :=
  if r then { s.boot with pos := .step 6 }
  else
    match s.cfg.oscSource with
    | .internal => s.boot
    | .external =>
      { s.boot with
        polls := s.boot.polls + 1
        pos := if s.boot.polls + 1 = s.cfg.oscWaitIters then .oscTimeout else .step 5 }

/-- OSCRDY (R186), polled at hpc 5 (R187). -/
def execOscrdy (s : State) : Host.Outcome State Fault Refusal :=
  s.atHost (.step 5) fun s =>
    (s.withBoot (afterPoll s s.env.oscReady)).answer (flagRes s.env.oscReady)

/-- CFGPRE (R188), hpc 6: PRESC takes the PRESC_W bits of the divisor (R65). -/
def execCfgpre (divisor : Word) (s : State) : Host.Outcome State Fault Refusal :=
  s.whenUnlocked <| s.atHost (.step 6) fun s =>
    ((s.withCri { s.cri with presc := truncTo s.cfg.prescW divisor }).hostGoto (.step 7)).answer .none

/-- SETCNT (R189), hpc 7: both halves in one step, no flag, no match. -/
def execSetcnt (value : Word) (s : State) : Host.Outcome State Fault Refusal :=
  s.whenUnlocked <| s.atHost (.step 7) fun s =>
    ((s.withCri { s.cri with cnt := value }).hostGoto (.step 8)).answer .none

/-- SETALR (R190), hpc 8: no flag, no match. -/
def execSetalr (value : Word) (s : State) : Host.Outcome State Fault Refusal :=
  s.whenUnlocked <| s.atHost (.step 8) fun s =>
    ((s.withCri { s.cri with alarm := value }).hostGoto (.step 9)).answer .none

/-- ENIRQ (R191), hpc 9. -/
def execEnirq (s : State) : Host.Outcome State Fault Refusal :=
  s.whenUnlocked <| s.atHost (.step 9) fun s =>
    ((s.withCri { s.cri with tickie := true, alrie := true }).hostGoto (.step 10)).answer .none

/-- REGHANDLER (R192), hpc 10. -/
def execReghandler (s : State) : Host.Outcome State Fault Refusal :=
  s.atHost (.step 10) fun s =>
    ((s.withSide { s.side with hreg := true }).hostGoto (.step 11)).answer .none

/-- WRSENT (R183), hpc 11. -/
def execWrsent (value : Half) (s : State) : Host.Outcome State Fault Refusal :=
  s.whenUnlocked <| s.atHost (.step 11) fun s =>
    ((s.withCri { s.cri with sent := value }).hostGoto (.step 12)).answer .none

/-- WAITSYNC (R193), hpc 12, two steps of HOST: step a clears RSF; step b is enabled only when RSF = 1 and has no effect
but that the host goes on. While RSF = 0 the host waits: its turn leaves it where it is. -/
def execWaitsync (s : State) : Host.Outcome State Fault Refusal :=
  if s.hostAt (.step 12) then
    .next (((s.withCri { s.cri with rsf := false }).hostGoto .syncWait).answer .none)
  else if s.hostAt .syncWait then
    .next ((if s.cri.rsf then s.hostGoto .done else s).answer .none)
  else .refused s.misissued

end Sys2Proof.Machine
end

