-- ==== Sys2Proof/Machine/Dispatch.lean ====
section
/-! DEFINITION. One arm per coded operation, in the order of opcode_table.json: each is one direct call of its meaning. -/

namespace Sys2Proof.Machine

def exec (i : Instr) (s : State) : Host.Outcome State Fault Refusal :=
  match i with
  | .rdh => Sys2Proof.Machine.execRdh s
  | .rdl => Sys2Proof.Machine.execRdl s
  | .cfgpre divisor => Sys2Proof.Machine.execCfgpre divisor s
  | .setcnt value => Sys2Proof.Machine.execSetcnt value s
  | .setalr value => Sys2Proof.Machine.execSetalr value s
  | .enirq => Sys2Proof.Machine.execEnirq s
  | .clrtick => Sys2Proof.Machine.execClrtick s
  | .clralr => Sys2Proof.Machine.execClralr s
  | .rdsent => Sys2Proof.Machine.execRdsent s
  | .wrsent value => Sys2Proof.Machine.execWrsent value s
  | .rstbkp => Sys2Proof.Machine.execRstbkp s
  | .selosc source => Sys2Proof.Machine.execSelosc source s
  | .waitsync => Sys2Proof.Machine.execWaitsync s
  | .unlockbkp => Sys2Proof.Machine.execUnlockbkp s
  | .rstcause => Sys2Proof.Machine.execRstcause s
  | .oscrdy => Sys2Proof.Machine.execOscrdy s
  | .reghandler => Sys2Proof.Machine.execReghandler s
  | .rdflags => Sys2Proof.Machine.execRdflags s
  | .dsprdy => Sys2Proof.Machine.execDsprdy s
  | .clrbuf => Sys2Proof.Machine.execClrbuf s
  | .drawtext pos text => Sys2Proof.Machine.execDrawtext pos text s
  | .commit => Sys2Proof.Machine.execCommit s
  | .setlvl pin level => Sys2Proof.Machine.execSetlvl pin level s
  | .rdlvl pin => Sys2Proof.Machine.execRdlvl pin s
  | .log notice => Sys2Proof.Machine.execLog notice s
  | .asm32 => Sys2Proof.Machine.execAsm32 s
  | .tzsub => Sys2Proof.Machine.execTzsub s
  | .hms => Sys2Proof.Machine.execHms s
  | .wday => Sys2Proof.Machine.execWday s
  | .yearinit => Sys2Proof.Machine.execYearinit s
  | .yearstep => Sys2Proof.Machine.execYearstep s
  | .doyset => Sys2Proof.Machine.execDoyset s
  | .febfix => Sys2Proof.Machine.execFebfix s
  | .monscan => Sys2Proof.Machine.execMonscan s

end Sys2Proof.Machine
end

