-- ==== Sys2Proof/Machine/Agents.lean ====
section
/-! DEFINITION. The agents (00_scope R12): the fixed sequences SEQ, HOST and EDGE follow (30_encoding R93, 42_dispatch
R170, 43_init R194), the steps without operation code (R94), and how a line of a trace is taken (R92). -/

namespace Sys2Proof.Machine

/-- An agent issues an operation word with ARG: the word is decoded and the operation runs. A reserved code is refused
(R90). -/
def issueWord (agent : Agent) (word : Byte) (arg : Arg) (s : State) : Host.Outcome State Fault Refusal :=
  match decode word arg with
  | .ok i => exec i (s.withPort { s.port with op := word, arg := arg, issuer := agent })
  | .error (.reservedCode code) => .refused (.reservedCode code)

/-- An agent issues an operation of its sequence, by its word and ARG (R80). -/
def issue (agent : Agent) (i : Instr) (s : State) : Host.Outcome State Fault Refusal :=
  issueWord agent (encode i).1 (encode i).2 s

/-- The operation SEQ issues at its pc, with its arguments (R93, R158, R160, R170); none at (Idle,0), where its step is
VECTOR, and at a pc the table does not list. -/
def seqInstr (s : State) : Option Instr :=
  match s.blk.pc.state, s.blk.pc.step.toNat with
  | .entry, 0 => some .rdflags
  | .entry, 1 => some .dsprdy
  | .entry, 2 => some .clrtick
  | .reading, 0 => some .rdh
  | .reading, 1 => some .rdl
  | .reading, 2 => some .rdh
  | .reading, 3 => some .rdl
  | .reading, 4 => some .asm32
  | .decoding, 0 => some .tzsub
  | .decoding, 1 => some .hms
  | .decoding, 2 => some .wday
  | .decoding, 3 => some .yearinit
  | .decoding, 4 => some .yearstep
  | .decoding, 5 => some .doyset
  | .decoding, 6 => some .febfix
  | .decoding, 7 => some .monscan
  | .rendering, 0 => some .clrbuf
  | .rendering, 1 => some (.drawtext Config.posTop (topLine s.blk.cm))
  | .rendering, 2 => some (.drawtext Config.posSecond (secondLine s.blk.cm))
  | .rendering, 3 => some (.drawtext (Config.posBottom (clockLine s.blk.cm)) (clockLine s.blk.cm))
  | .rendering, 4 => some .commit
  | .rendering, 5 => some .clrtick
  | .alarmHandling, 0 => some (.setlvl .relay s.cfg.relayOff)
  | .alarmHandling, 1 => some (.log .alarmFired)
  | .alarmHandling, 2 => some .clralr
  | _, _ => none

/-- The operation HOST issues at its position (R187, R194); none when INIT is complete. -/
def hostInstr (s : State) : Option Instr :=
  match s.boot.pos with
  | .step hpc =>
    match hpc.val with
    | 0 => some .unlockbkp
    | 1 => some .rstcause
    | 2 => some .rdsent
    | 3 => some .rstbkp
    | 4 => some (.selosc s.cfg.oscSource)
    | 5 => some .oscrdy
    | 6 => some (.cfgpre (prescDiv s.cfg))
    | 7 => some (.setcnt s.cfg.seed)
    | 8 => some (.setalr (alarmSeed s.cfg))
    | 9 => some .enirq
    | 10 => some .reghandler
    | 11 => some (.wrsent s.cfg.sentinel)
    | _ => some .waitsync
  | .oscTimeout => some (.log .oscTimeout)
  | .syncWait => some .waitsync
  | .done => none

/-- The operation EDGE issues (R168): the read of DIAG_PIN if an event waits, then the write of the inverse. -/
def edgeInstr (s : State) : Option Instr :=
  match s.edge.pos with
  | .rest => if 0 < s.edge.runs then some (.rdlvl .diag) else none
  | .toggle l => some (.setlvl .diag (!l))

/-- SEQ's turn. At (Idle,0) it is VECTOR if that is enabled (R150); otherwise SEQ is stuck there and nothing changes. -/
def seqMove (s : State) : Host.Outcome State Fault Refusal :=
  if s.blk.pc = ⟨.idle, 0#4⟩ then .next (if vectorEnabled s then enterVector s else s)
  else
    match seqInstr s with
    | some i => issue .seq i s
    | none => .fault .unlistedPc

/-- HOST's turn; past INIT it has no step and nothing changes (log 5). -/
def hostMove (s : State) : Host.Outcome State Fault Refusal :=
  match hostInstr s with
  | some i => issue .host i s
  | none => .next s

/-- EDGE's turn; with no event waiting, or where it may not preempt SEQ (R219), nothing changes. -/
def edgeMove (s : State) : Host.Outcome State Fault Refusal :=
  if s.edgeMay then
    match edgeInstr s with
    | some i => issue .edge i s
    | none => .next s
  else .next s

/-- CTR.INC (R42), if it is enabled. -/
def ctrInc (s : State) : State := if incEnabled s.cri then s.withCri (increment s.cri) else s

/-- CTR.SYNC (R43): RSF <- 1. -/
def ctrSync (s : State) : State := s.withCri { s.cri with rsf := true }

/-- HOST.DISPLAY_UP (R48): the display sink has completed its own initialisation. If that has failed, DISPLAY_READY "stays 0
for ever" (R48, R212) and the step is not enabled (log 36). -/
def displayUp (s : State) : State :=
  if s.side.sinkInit = some .failed then s
  else s.withSide { s.side with displayReady := true, sinkInit := some .ok }

/-- FC2 (R210, R212): the display sink's own initialisation fails, and HOST records the notice DISPLAY_INIT(FAILED). It ends in
this or in HOST.DISPLAY_UP (R247), so the step is enabled only before either (log 36). -/
def displayFailed (s : State) : Host.Outcome State Fault Refusal :=
  if s.side.sinkInit = none then
    issue .host (.log (.displayInit .failed)) (s.withSide { s.side with sinkInit := some .failed })
  else .next s

/-- HOST records the notice DISPLAY_INIT(OK), after HOST.DISPLAY_UP (R169, R210; log 28). -/
def displayNotice (s : State) : Host.Outcome State Fault Refusal :=
  if s.side.sinkInit = some .ok then issue .host (.log (.displayInit .ok)) s else .next s

/-- ENV.BACKUP_LOSS with the ENV.RESET that follows it (R240, R244): one move, since the spec "lets it occur only together
with a following ENV.RESET" (log 11). -/
def backupLoss (por pin : Bool) (s : State) : State := systemReset por pin (loseBackup s)

/-- ENV.EDGE, a rising edge of EDGE_PIN: one more run of EDGE is due (R168, log 14). The spec states no level of EDGE_PIN
after it: a free value (log 15). -/
def envEdge (s : State) : State :=
  ((s.withEdge { s.edge with runs := s.edge.runs + 1 }).withSide { s.side with edgePin := s.drawBit 0 }).drawn 1

/-- ENV.OSC, the selected oscillator's start (R186); with OSC = NONE there is none to start (log 12). -/
def envOsc (s : State) : State :=
  if s.cri.osc = .none then s else s.withEnv { s.env with oscReady := true }

/-- One move of the machine. -/
def takeMove (m : Move) (s : State) : Host.Outcome State Fault Refusal :=
  match m with
  | .seq => seqMove s
  | .host => hostMove s
  | .edge => edgeMove s
  | .displayFailed => displayFailed s
  | .displayNotice => displayNotice s
  | .ctrInc => .next (ctrInc s)
  | .ctrSync => .next (ctrSync s)
  | .displayUp => .next (displayUp s)
  | .reset por pin => .next (systemReset por pin s)
  | .backupLoss por pin => .next (backupLoss por pin s)
  | .envEdge => .next (envEdge s)
  | .envOsc => .next (envOsc s)

/-- A line of the trace: a move, or an operation word that an agent issues. -/
def takeLine (l : Line) (s : State) : Host.Outcome State Fault Refusal :=
  match l with
  | .move m => takeMove m s
  | .op agent word arg => issueWord agent word arg s

/-- The line the next step takes: the first of `sched`; with none left, a free choice among the moves (R12, log 4). -/
def nextLine (s : State) : Line :=
  match s.sched with
  | l :: _ => l
  | [] => .move (Config.freeMove s.draws)

/-- The state with that line taken off `sched`, or the free choice counted. -/
def lineTaken (s : State) : State :=
  match s.sched with
  | _ :: rest => s.withSched rest
  | [] => s.drawn 1

/-- The agent whose sequence lists the operation: EDGE for RDLVL, HOST for INIT's operations, else SEQ (R93, R227). -/
def agentOf (i : Instr) : Agent :=
  match i with
  | .rdlvl _ => .edge
  | .cfgpre _ | .setcnt _ | .setalr _ | .enirq | .rdsent | .wrsent _ | .rstbkp | .selosc _ | .waitsync
  | .unlockbkp | .rstcause | .oscrdy | .reghandler => .host
  | .rdh | .rdl | .clrtick | .clralr | .rdflags | .dsprdy | .clrbuf | .drawtext _ _ | .commit | .setlvl _ _ | .log _
  | .asm32 | .tzsub | .hms | .wday | .yearinit | .yearstep | .doyset | .febfix | .monscan => .seq

/-- HOST at step hpc of INIT. From hpc 3 on the domain is unlocked, as step 0 leaves it (R180, R194; log 6). -/
def atHpc (hpc : Fin 13) (s : State) : State :=
  let s' := s.hostGoto (.step hpc)
  if 3 ≤ hpc.val then s'.withCri { s.cri with bkpwe := true } else s'

/-- The state with the issuing agent where its sequence lists the operation (R93, R170, R194): how an operation is made
the next one (log 6). -/
def placeFor (i : Instr) (s : State) : State :=
  match i with
  | .unlockbkp => atHpc 0 s
  | .rstcause => atHpc 1 s
  | .rdsent => atHpc 2 s
  | .rstbkp => atHpc 3 s
  | .selosc _ => atHpc 4 s
  | .oscrdy => atHpc 5 s
  | .cfgpre _ => atHpc 6 s
  | .setcnt _ => atHpc 7 s
  | .setalr _ => atHpc 8 s
  | .enirq => atHpc 9 s
  | .reghandler => atHpc 10 s
  | .wrsent _ => atHpc 11 s
  | .waitsync => atHpc 12 s
  | .rdlvl _ =>
    (if s.cfg.edgePreempts then s else returnToIdle s).withEdge { pos := .rest, runs := max 1 s.edge.runs }
  | .rdflags => s.goto .entry 0#4
  | .dsprdy => s.goto .entry 1#4
  | .clrtick => s.goto .entry 2#4
  | .rdh => s.goto .reading 0#4
  | .rdl => s.goto .reading 1#4
  | .asm32 => s.goto .reading 4#4
  | .tzsub => s.goto .decoding 0#4
  | .hms => s.goto .decoding 1#4
  | .wday => s.goto .decoding 2#4
  | .yearinit => s.goto .decoding 3#4
  | .yearstep => s.goto .decoding 4#4
  | .doyset => s.goto .decoding 5#4
  | .febfix => s.goto .decoding 6#4
  | .monscan => s.goto .decoding 7#4
  | .clrbuf => s.goto .rendering 0#4
  | .drawtext _ _ => s.goto .rendering 1#4
  | .commit => s.goto .rendering 4#4
  | .setlvl _ _ => s.goto .alarmHandling 0#4
  | .log _ => s.goto .alarmHandling 1#4
  | .clralr => s.goto .alarmHandling 2#4

/-- The state whose next line is the operation word `w`, ARG zero, issued by the agent whose sequence lists it and with
that agent in place. A reserved code has no place: it is issued as it is and refused (R90). -/
def withWord (s : State) (nbits w : Nat) : State :=
  match decodeTableWord nbits w with
  | some i =>
    let s' := placeFor i s
    s'.withSched (.op (agentOf i) (BitVec.ofNat 8 w) Arg.zero :: s.sched)
  | none => s.withSched (.op .seq (BitVec.ofNat 8 w) Arg.zero :: s.sched)

end Sys2Proof.Machine
end

