-- ==== Sys2Proof/Machine/Step.lean ====
section
/-! DEFINITION. One step of the machine: the next line of the trace is taken (00_scope R12, 20_memory R71). -/

namespace Sys2Proof.Machine

def step (s : State) : Host.Outcome State Fault Refusal := takeLine (nextLine s) (lineTaken s)

/-- The state in which the operation of an opcode-table word is the very next one to be issued. The machine fetches no
instruction (20_memory R76): its agents issue operations from fixed sequences, so the word stands as the next line of the
trace, with the issuing agent placed where its sequence lists it (log 6). -/
def State.withFetchWord (s : State) (nbits w : Nat) : State := withWord s nbits w

end Sys2Proof.Machine
end

