-- ==== Sys2Proof/Safety.lean ====
section
/-! DEFINITION. What counts as a well-behaved machine, in the terms the statements use: the transition table of 42_dispatch
R170, the calendar of 41_decoder R136, and the consistency of a state with the sequences that lead to it. -/

namespace Sys2Proof.Machine

/-! ## Runs of moves -/

/-- The moves of a list, one after the other, up to the first fault or refusal. -/
def runMoves (ms : List Move) (s : State) : Host.Outcome State Fault Refusal :=
  match ms with
  | [] => .next s
  | m :: rest =>
    match takeMove m s with
    | .next t => runMoves rest t
    | .fault f => .fault f
    | .refused r => .refused r

/-- `n` CTR.INC moves (R42). -/
def increments (n : Nat) (s : State) : State :=
  match n with
  | 0 => s
  | k + 1 => increments k (ctrInc s)

/-- The line is a move: an agent's turn or an environment step, not a line that names an operation word. -/
def isMoveLine (l : Line) : Bool :=
  match l with
  | .move _ => true
  | .op _ _ _ => false

/-! ## The transition table (R170) -/

/-- The pc values of the table; "a pc value not in the table is unreachable". -/
def listedPc (p : Pc) : Bool :=
  match p.state with
  | .idle => decide (p.step.toNat = 0)
  | .entry => decide (p.step.toNat ≤ 2)
  | .reading => decide (p.step.toNat ≤ 4)
  | .decoding => decide (p.step.toNat ≤ 7)
  | .rendering => decide (p.step.toNat ≤ 5)
  | .alarmHandling => decide (p.step.toNat ≤ 2)

/-- The table's "next" column, for a step of SEQ from `s` to `t`: the conditions read the state before the step, and for
(Reading,2) the H2 that the step has just read. At (Idle,0) the step is VECTOR when enabled. -/
def tableNext (s t : State) : Pc :=
  match s.blk.pc.state, s.blk.pc.step.toNat with
  | .idle, 0 => if vectorEnabled s then ⟨.entry, 0#4⟩ else ⟨.idle, 0#4⟩
  | .entry, 0 =>
    if s.cri.tickf then ⟨.entry, 1#4⟩ else if s.cri.alrf then ⟨.alarmHandling, 0#4⟩ else ⟨.idle, 0#4⟩
  | .entry, 1 =>
    if s.side.displayReady = false ∨ s.cfg.clearPoint = .entry then ⟨.entry, 2#4⟩ else ⟨.reading, 0#4⟩
  | .entry, 2 => if s.blk.ready then ⟨.reading, 0#4⟩ else ⟨.idle, 0#4⟩
  | .reading, 0 => ⟨.reading, 1#4⟩
  | .reading, 1 => ⟨.reading, 2#4⟩
  | .reading, 2 => if t.blk.h1 ≠ t.blk.h2 then ⟨.reading, 3#4⟩ else ⟨.reading, 4#4⟩
  | .reading, 3 => ⟨.reading, 4#4⟩
  | .reading, 4 => ⟨.decoding, 0#4⟩
  | .decoding, 4 => if ylen s.blk.leap ≤ s.blk.d.toNat then ⟨.decoding, 4#4⟩ else ⟨.decoding, 5#4⟩
  | .decoding, 7 => ⟨.rendering, 0#4⟩
  | .rendering, 4 => if s.cfg.clearPoint = .exit then ⟨.rendering, 5#4⟩ else ⟨.idle, 0#4⟩
  | .rendering, 5 => ⟨.idle, 0#4⟩
  | .alarmHandling, 2 => ⟨.idle, 0#4⟩
  | st, _ => ⟨st, s.blk.pc.step + 1#4⟩

/-! ## The calendar (R136) -/

/-- The year loop of R136, with a bound on its iterations: from year `y` and day count `d`, the year reached and the days
left in it. -/
def yearLoop (bound y d : Nat) : Nat × Nat :=
  match bound with
  | 0 => (y, d)
  | k + 1 => if ylen (isLeap y) ≤ d then yearLoop k (y + 1) (d - ylen (isLeap y)) else (y, d)

/-- `len(m)` of R136: the length of month m of a common or a leap year (R33). -/
def monthLen (leap : Bool) (m : Nat) : Nat :=
  match m with
  | 1 => 31
  | 2 => if leap then 29 else 28
  | 3 => 31
  | 4 => 30
  | 5 => 31
  | 6 => 30
  | 7 => 31
  | 8 => 31
  | 9 => 30
  | 10 => 31
  | 11 => 30
  | 12 => 31
  | _ => 0

/-- `len(1) + … + len(m)`: the days of the year up to the end of month m. -/
def daysThrough (leap : Bool) (m : Nat) : Nat :=
  match m with
  | 0 => 0
  | k + 1 => daysThrough leap k + monthLen leap (k + 1)

/-- "least m in 1..12 with len(1) + … + len(m) >= doy" (R136); 12 where there is none. -/
def leastMonth (leap : Bool) (doy : Nat) : Nat :=
  match (List.range 11).find? fun k => decide (doy ≤ daysThrough leap (k + 1)) with
  | some k => k + 1
  | none => 12

/-- `decode(v)` of R136: the calendar moment of a counter value, in natural numbers. -/
def calendar (v : Word) : Moment :=
  let e := (v - 18000#32).toNat
  let days := e / 86400
  let yd := yearLoop 137 1970 days
  let doy := yd.2 + 1
  let month := leastMonth (isLeap yd.1) doy
  { year := BitVec.ofNat 16 yd.1
    month := BitVec.ofNat 4 month
    date := BitVec.ofNat 5 (doy - daysThrough (isLeap yd.1) (month - 1))
    hour := BitVec.ofNat 5 (e / 3600 % 24)
    minute := BitVec.ofNat 6 (e / 60 % 60)
    second := BitVec.ofNat 6 (e % 60)
    weekday := BitVec.ofNat 3 ((days + 4) % 7)
    doy := BitVec.ofNat 9 doy }

/-- The days of the first `k` years from 1970 on. -/
def daysOfYears (k : Nat) : Nat :=
  match k with
  | 0 => 0
  | j + 1 => daysOfYears j + ylen (isLeap (1970 + j))

/-- How many of the first `k` years from 1970 on are leap years. -/
def leapYears (k : Nat) : Nat :=
  match k with
  | 0 => 0
  | j + 1 => leapYears j + (if isLeap (1970 + j) then 1 else 0)

/-- The three draw requests of a rendered moment (R158, R159). -/
def frame (cm : Moment) : List Draw :=
  [⟨Config.posTop, topLine cm⟩, ⟨Config.posSecond, secondLine cm⟩, ⟨Config.posBottom (clockLine cm), clockLine cm⟩]

/-! ## Consistency of a state with the sequences -/

/-- The eleven entries of MDAYS other than February hold their constants (R33, R34). -/
def MonthTable.wf (t : MonthTable) : Bool := decide (t = MonthTable.withFebruary t.m2)

/-- How far the decode of RAW has come: the STEP in Decoding, 8 in Rendering, 0 elsewhere (R120). -/
def decodeStage (p : Pc) : Nat :=
  match p.state with
  | .decoding => p.step.toNat
  | .rendering => 8
  | .idle => 0
  | .entry => 0
  | .reading => 0
  | .alarmHandling => 0

/-- The registers hold what the decode of RAW has computed so far (R121 to R128, R130). -/
structure DecodeSound (b : Block) : Prop where
  offset : 1 ≤ decodeStage b.pc → b.e = b.raw - 18000#32
  clock : 2 ≤ decodeStage b.pc →
    b.cm.second = (calendar b.raw).second ∧ b.cm.minute = (calendar b.raw).minute ∧
      b.cm.hour = (calendar b.raw).hour ∧ b.days.toNat = (b.raw - 18000#32).toNat / 86400
  weekday : 3 ≤ decodeStage b.pc → b.cm.weekday = (calendar b.raw).weekday
  years : 4 ≤ decodeStage b.pc →
    1970 ≤ b.cm.year.toNat ∧ b.leap = isLeap b.cm.year.toNat ∧
      daysOfYears (b.cm.year.toNat - 1970) + b.d.toNat = b.days.toNat ∧
        b.leapDays.toNat = leapYears (b.cm.year.toNat - 1970)
  loopEnded : 5 ≤ decodeStage b.pc → b.d.toNat < ylen b.leap
  dayOfYear : 6 ≤ decodeStage b.pc → b.cm.doy.toNat = b.d.toNat + 1
  february : 7 ≤ decodeStage b.pc → b.mdays.m2 = Machine.february b.leap
  moment : 8 ≤ decodeStage b.pc → b.cm = calendar b.raw

/-- HOST is past step 0 of INIT. -/
def pastUnlock (p : HostPos) : Bool :=
  match p with
  | .step hpc => decide (1 ≤ hpc.val)
  | .oscTimeout => true
  | .syncWait => true
  | .done => true

/-- What every step keeps: the constraints of R8 and R243, a pc of R170, the constants of MDAYS, the width of PRESC, an
unlocked domain once HOST is past UNLOCKBKP, enables set and cleared together (R191), no ready oscillator without a selected
one (R186 as log 12 reads it), a ready-wait within its bound (R187), a ready display only where its initialisation did not fail
(R48, R212), and a decode that agrees with RAW. -/
structure Consistent (s : State) : Prop where
  params : s.cfg.wf = true
  listed : listedPc s.blk.pc = true
  months : s.blk.mdays.wf = true
  prescaler : s.cri.presc.toNat < 2 ^ s.cfg.prescW
  unlocked : pastUnlock s.boot.pos = true → s.cri.bkpwe = true
  enables : s.cri.tickie = s.cri.alrie
  oscillator : s.cri.osc = .none → s.env.oscReady = false
  wait : s.boot.pos = .step 5 → s.cfg.oscSource = .external → s.boot.polls < s.cfg.oscWaitIters
  display : s.side.displayReady = true ↔ s.side.sinkInit = some .ok
  decode : DecodeSound s.blk

/-- The display holds whole frames (R165, R260): at each step of Rendering DBUF holds the frame of CM so far, after COMMIT
PANEL holds it whole, and at any time PANEL is empty or the frame of one moment. No line to come names an operation word. -/
structure FramesWhole (s : State) : Prop where
  moves : s.sched.all isMoveLine = true
  panel : s.side.panel = [] ∨ ∃ v : Word, s.side.panel = frame (calendar v)
  drawing : s.blk.pc.state = .rendering → 1 ≤ s.blk.pc.step.toNat → s.blk.pc.step.toNat ≤ 4 →
    s.side.dbuf = (frame s.blk.cm).take (s.blk.pc.step.toNat - 1)
  committed : s.blk.pc = ⟨.rendering, 5#4⟩ → s.side.panel = frame s.blk.cm

end Sys2Proof.Machine
end

