-- ==== Sys2Proof/Certificates/Slice0/Obligations.lean ====
section
/-! DEFINITION. The statements for the provers. A register's new value is written as the rule gives it, and every field that a
statement does not name is unchanged: the next state is given whole, as the old one with the named fields replaced. A statement
about an operation begins with its encoding: the code, and what its format takes from ARG (R81, R83 to R85). -/

open Sys2Proof Sys2Proof.Machine

/-! ## The counter read family (40_counter_read) -/

/-- RDH (R100): the high half of CNT if RSF = 1, else a draw, into H1 at (Reading,0) or H2 at (Reading,2); the comparison of
the high reads selects the successor of (Reading,2). -/
def Obligations.RdhReadsTheHighHalf : Prop :=
  (∀ arg : Arg, decode 0x01#8 arg = .ok .rdh) ∧
  ∀ (s : State) (v : Half), s.port.issuer = .seq →
    v = (if s.cri.rsf then BitVec.ofNat 16 (s.cri.cnt.toNat / 65536) else (Config.free s.draws).setWidth 16) →
    (s.blk.pc = ⟨.reading, 0#4⟩ →
      exec .rdh s = .next { s with
        blk := { s.blk with h1 := v, pc := ⟨.reading, 1#4⟩ }
        port := { s.port with res := .q16 v }
        draws := s.draws + (if s.cri.rsf then 0 else 1) }) ∧
    (s.blk.pc = ⟨.reading, 2#4⟩ →
      exec .rdh s = .next { s with
        blk := { s.blk with h2 := v, pc := ⟨.reading, if s.blk.h1 ≠ v then 3#4 else 4#4⟩ }
        port := { s.port with res := .q16 v }
        draws := s.draws + (if s.cri.rsf then 0 else 1) })

/-- RDL (R101): the low half of CNT if RSF = 1, else a draw, into L1 at (Reading,1) or L2 at (Reading,3). -/
def Obligations.RdlReadsTheLowHalf : Prop :=
  (∀ arg : Arg, decode 0x02#8 arg = .ok .rdl) ∧
  ∀ (s : State) (v : Half), s.port.issuer = .seq →
    v = (if s.cri.rsf then BitVec.ofNat 16 (s.cri.cnt.toNat % 65536) else (Config.free s.draws).setWidth 16) →
    (s.blk.pc = ⟨.reading, 1#4⟩ →
      exec .rdl s = .next { s with
        blk := { s.blk with l1 := v, pc := ⟨.reading, 2#4⟩ }
        port := { s.port with res := .q16 v }
        draws := s.draws + (if s.cri.rsf then 0 else 1) }) ∧
    (s.blk.pc = ⟨.reading, 3#4⟩ →
      exec .rdl s = .next { s with
        blk := { s.blk with l2 := v, pc := ⟨.reading, 4#4⟩ }
        port := { s.port with res := .q16 v }
        draws := s.draws + (if s.cri.rsf then 0 else 1) })

/-- ASM32 (R102): RAW is H2 with L2 if the high reads differ, else H1 with L1. -/
def Obligations.AsmReassemblesTheCounter : Prop :=
  (∀ arg : Arg, decode 0x80#8 arg = .ok .asm32) ∧
  ∀ s : State, s.port.issuer = .seq → s.blk.pc = ⟨.reading, 4#4⟩ →
    exec .asm32 s = .next { s with
      blk := { s.blk with
        raw := if s.blk.h1 ≠ s.blk.h2 then BitVec.ofNat 32 (65536 * s.blk.h2.toNat + s.blk.l2.toNat)
          else BitVec.ofNat 32 (65536 * s.blk.h1.toNat + s.blk.l1.toNat)
        pc := ⟨.decoding, 0#4⟩ }
      port := { s.port with res := .none } }

/-! ## The decoder family (41_decoder) -/

/-- TZSUB (R121): E is RAW minus 18000 modulo 2^32, and nothing else is written but pc. -/
def Obligations.TzsubSubtractsTheOffset : Prop :=
  (∀ arg : Arg, decode 0x81#8 arg = .ok .tzsub) ∧
  ∀ s : State, s.port.issuer = .seq → s.blk.pc = ⟨.decoding, 0#4⟩ →
    exec .tzsub s = .next { s with
      blk := { s.blk with
        e := BitVec.ofNat 32 ((s.blk.raw.toNat + (2 ^ 32 - 18000)) % 2 ^ 32)
        pc := ⟨.decoding, 1#4⟩ }
      port := { s.port with res := .none } }

/-- HMS (R122). -/
def Obligations.HmsSplitsSecondsIntoClockAndDays : Prop :=
  (∀ arg : Arg, decode 0x82#8 arg = .ok .hms) ∧
  ∀ s : State, s.port.issuer = .seq → s.blk.pc = ⟨.decoding, 1#4⟩ →
    exec .hms s = .next { s with
      blk := { s.blk with
        cm := { s.blk.cm with
          second := BitVec.ofNat 6 (s.blk.e.toNat % 60)
          minute := BitVec.ofNat 6 (s.blk.e.toNat / 60 % 60)
          hour := BitVec.ofNat 5 (s.blk.e.toNat / 3600 % 24) }
        days := BitVec.ofNat 32 (s.blk.e.toNat / 86400)
        pc := ⟨.decoding, 2#4⟩ }
      port := { s.port with res := .none } }

/-- WDAY (R123): the weekday is entry DAYS mod 7 of [4,5,6,0,1,2,3], in closed form (DAYS + 4) mod 7; the entry exists for
every DAYS. -/
def Obligations.WdayReadsTheWeekdayTable : Prop :=
  (∀ arg : Arg, decode 0x83#8 arg = .ok .wday) ∧
  ∀ s : State, s.port.issuer = .seq → s.blk.pc = ⟨.decoding, 2#4⟩ →
    (∃ w : BitVec 3, [4#3, 5#3, 6#3, 0#3, 1#3, 2#3, 3#3][s.blk.days.toNat % 7]? = some w ∧
      w.toNat = (s.blk.days.toNat + 4) % 7 ∧
      exec .wday s = .next { s with
        blk := { s.blk with cm := { s.blk.cm with weekday := w }, pc := ⟨.decoding, 3#4⟩ }
        port := { s.port with res := .none } })

/-- YEARINIT (R124). -/
def Obligations.YearinitStartsAt1970 : Prop :=
  (∀ arg : Arg, decode 0x84#8 arg = .ok .yearinit) ∧
  ∀ s : State, s.port.issuer = .seq → s.blk.pc = ⟨.decoding, 3#4⟩ →
    exec .yearinit s = .next { s with
      blk := { s.blk with
        cm := { s.blk.cm with year := 1970#16 }
        leap := false
        d := s.blk.days
        leapDays := 0#8
        pc := ⟨.decoding, 4#4⟩ }
      port := { s.port with res := .none } }

/-- YEARSTEP (R125): if D is at least the length of the year it is taken off, LEAPDAYS counts a leap year left behind, the
year goes on and LEAP is the Gregorian predicate of the new year; otherwise nothing is written and the loop ends. The two
bounds on the year and on LEAPDAYS hold in every decode (R125, R129). -/
def Obligations.YearstepTestsAndSubtracts : Prop :=
  (∀ arg : Arg, decode 0x85#8 arg = .ok .yearstep) ∧
  ∀ (s : State) (len y : Nat), s.port.issuer = .seq → s.blk.pc = ⟨.decoding, 4#4⟩ →
    len = (if s.blk.leap then 366 else 365) → y = s.blk.cm.year.toNat + 1 →
    (len ≤ s.blk.d.toNat → y < 65536 → s.blk.leapDays.toNat < 255 →
      exec .yearstep s = .next { s with
        blk := { s.blk with
          d := BitVec.ofNat 32 (s.blk.d.toNat - len)
          leapDays := BitVec.ofNat 8 (s.blk.leapDays.toNat + if s.blk.leap then 1 else 0)
          cm := { s.blk.cm with year := BitVec.ofNat 16 y }
          leap := decide ((y % 4 = 0 ∧ y % 100 ≠ 0) ∨ y % 400 = 0)
          pc := ⟨.decoding, 4#4⟩ }
        port := { s.port with res := .none } }) ∧
    (s.blk.d.toNat < len →
      exec .yearstep s = .next { s with
        blk := { s.blk with pc := ⟨.decoding, 5#4⟩ }
        port := { s.port with res := .none } })

/-- DOYSET (R126), for the D that the loop leaves (at most 365): the day of the year is D + 1. FEBFIX (R127): entry 2 of MDAYS
becomes 29 if LEAP = 1 and 28 if LEAP = 0, whatever it held; no other entry changes. -/
def Obligations.DoysetAndFebfixPrepareTheScan : Prop :=
  (∀ arg : Arg, decode 0x86#8 arg = .ok .doyset ∧ decode 0x87#8 arg = .ok .febfix) ∧
  ∀ s : State, s.port.issuer = .seq →
    (s.blk.pc = ⟨.decoding, 5#4⟩ →
      ∃ t : State, exec .doyset s = .next t ∧ (s.blk.d.toNat ≤ 365 → t.blk.cm.doy.toNat = s.blk.d.toNat + 1) ∧
        t = { s with
          blk := { s.blk with cm := { s.blk.cm with doy := t.blk.cm.doy }, pc := ⟨.decoding, 6#4⟩ }
          port := { s.port with res := .none } }) ∧
    (s.blk.pc = ⟨.decoding, 6#4⟩ →
      exec .febfix s = .next { s with
        blk := { s.blk with
          mdays := { s.blk.mdays with m2 := if s.blk.leap then 29#8 else 28#8 }
          pc := ⟨.decoding, 7#4⟩ }
        port := { s.port with res := .none } })

/-- MONSCAN (R128): with MDAYS as FEBFIX leaves it and a day of the year within it, the month is the first one whose
cumulative total reaches the day, and the date what is left of the months before it. -/
def Obligations.MonscanFindsMonthAndDate : Prop :=
  (∀ arg : Arg, decode 0x88#8 arg = .ok .monscan) ∧
  ∀ (s : State) (m : Nat), s.port.issuer = .seq → s.blk.pc = ⟨.decoding, 7#4⟩ →
    s.blk.mdays = MonthTable.withFebruary (if s.blk.leap then 29#8 else 28#8) →
    s.blk.cm.doy.toNat ≤ daysThrough s.blk.leap 12 →
    1 ≤ m → m ≤ 12 → s.blk.cm.doy.toNat ≤ daysThrough s.blk.leap m →
    (∀ k, 1 ≤ k → k < m → daysThrough s.blk.leap k < s.blk.cm.doy.toNat) →
    exec .monscan s = .next { s with
      blk := { s.blk with
        m := BitVec.ofNat 4 m
        cum := BitVec.ofNat 16 (daysThrough s.blk.leap m)
        prev := BitVec.ofNat 16 (daysThrough s.blk.leap (m - 1))
        cm := { s.blk.cm with
          month := BitVec.ofNat 4 m
          date := BitVec.ofNat 5 (s.blk.cm.doy.toNat - daysThrough s.blk.leap (m - 1)) }
        pc := ⟨.rendering, 0#4⟩ }
      port := { s.port with res := .none } }

/-- MONSCAN stops, by name, exactly where the scan would read an entry of MDAYS above 12 (R64; the stop is the model's,
log 22): with the constant entries in place, where the day of the year is beyond the table's whole sum. -/
def Obligations.MonscanStopsOnlyPastDecember : Prop :=
  ∀ s : State, s.port.issuer = .seq → s.blk.pc = ⟨.decoding, 7#4⟩ → s.blk.mdays.wf = true →
    (exec .monscan s = .fault .noSuchEntry ↔ 337 + s.blk.mdays.m2.toNat < s.blk.cm.doy.toNat) ∧
    (s.blk.cm.doy.toNat ≤ 337 + s.blk.mdays.m2.toNat → ∃ t, exec .monscan s = .next t)

/-! ## The dispatch family (42_dispatch) -/

/-- RDFLAGS (R151): the tick flag is tested first, the alarm flag second, one of them at most; the enables are not looked at
and no flag changes. -/
def Obligations.RdflagsTestsTickFirst : Prop :=
  (∀ arg : Arg, decode 0x12#8 arg = .ok .rdflags) ∧
  ∀ s : State, s.port.issuer = .seq → s.blk.pc = ⟨.entry, 0#4⟩ →
    exec .rdflags s = .next { s with
      blk := { s.blk with
        pc := if s.cri.tickf = true then ⟨.entry, 1#4⟩
          else if s.cri.alrf = true then ⟨.alarmHandling, 0#4⟩ else ⟨.idle, 0#4⟩ }
      port := { s.port with res := .q2 (BitVec.ofNat 2 (2 * s.cri.tickf.toNat + s.cri.alrf.toNat)) } }

/-- DSPRDY (R152): the guard; its result is remembered for (Entry,2). -/
def Obligations.DsprdyGuardsTheRead : Prop :=
  (∀ arg : Arg, decode 0x20#8 arg = .ok .dsprdy) ∧
  ∀ s : State, s.port.issuer = .seq → s.blk.pc = ⟨.entry, 1#4⟩ →
    exec .dsprdy s = .next { s with
      blk := { s.blk with
        ready := s.side.displayReady
        pc := if s.side.displayReady = false ∨ s.cfg.clearPoint = .entry then ⟨.entry, 2#4⟩ else ⟨.reading, 0#4⟩ }
      port := { s.port with res := .q1 (BitVec.ofNat 1 s.side.displayReady.toNat) } }

/-- CLRTICK (R153): TICKF becomes 0; at (Entry,2) the path goes on to the reads if DSPRDY had answered 1, else it returns; at
(Rendering,5) it returns. CLRALR (R154): ALRF becomes 0 and the path returns. -/
def Obligations.FlagClearsClearOneFlag : Prop :=
  (∀ arg : Arg, decode 0x07#8 arg = .ok .clrtick ∧ decode 0x08#8 arg = .ok .clralr) ∧
  ∀ s : State, s.port.issuer = .seq →
    (s.blk.pc = ⟨.entry, 2#4⟩ →
      exec .clrtick s = .next { s with
        cri := { s.cri with tickf := false }
        blk := { s.blk with pc := if s.blk.ready = false then ⟨.idle, 0#4⟩ else ⟨.reading, 0#4⟩ }
        port := { s.port with res := .none } }) ∧
    (s.blk.pc = ⟨.rendering, 5#4⟩ →
      exec .clrtick s = .next { s with
        cri := { s.cri with tickf := false }
        blk := { s.blk with pc := ⟨.idle, 0#4⟩ }
        port := { s.port with res := .none } }) ∧
    (s.blk.pc = ⟨.alarmHandling, 2#4⟩ →
      exec .clralr s = .next { s with
        cri := { s.cri with alrf := false }
        blk := { s.blk with pc := ⟨.idle, 0#4⟩ }
        port := { s.port with res := .none } })

/-- CLRBUF (R162): DBUF becomes empty, PANEL does not change. -/
def Obligations.ClrbufEmptiesTheBuffer : Prop :=
  (∀ arg : Arg, decode 0x21#8 arg = .ok .clrbuf) ∧
  ∀ s : State, s.port.issuer = .seq → s.blk.pc = ⟨.rendering, 0#4⟩ →
    exec .clrbuf s = .next { s with
      side := { s.side with dbuf := [] }
      blk := { s.blk with pc := ⟨.rendering, 1#4⟩ }
      port := { s.port with res := .none } }

/-- DRAWTEXT (R163): one entry is appended to DBUF, at each of the three steps that draw. -/
def Obligations.DrawtextAppendsToTheBuffer : Prop :=
  (∀ arg : Arg, decode 0x22#8 arg = .ok (.drawtext arg.pos arg.text)) ∧
  ∀ (s : State) (pos : Pos) (text : Text) (k : BitVec 4), s.port.issuer = .seq →
    k = 1#4 ∨ k = 2#4 ∨ k = 3#4 → s.blk.pc = ⟨.rendering, k⟩ →
    exec (.drawtext pos text) s = .next { s with
      side := { s.side with dbuf := s.side.dbuf ++ [⟨pos, text⟩] }
      blk := { s.blk with pc := ⟨.rendering, k + 1#4⟩ }
      port := { s.port with res := .none } }

/-- COMMIT (R164): PANEL becomes DBUF, DBUF is kept; the successor is R158's. -/
def Obligations.CommitCopiesTheBuffer : Prop :=
  (∀ arg : Arg, decode 0x23#8 arg = .ok .commit) ∧
  ∀ s : State, s.port.issuer = .seq → s.blk.pc = ⟨.rendering, 4#4⟩ →
    exec .commit s = .next { s with
      side := { s.side with panel := s.side.dbuf }
      blk := { s.blk with pc := if s.cfg.clearPoint = .exit then ⟨.rendering, 5#4⟩ else ⟨.idle, 0#4⟩ }
      port := { s.port with res := .none } }

/-- SETLVL (R166) sets the level of the pin that it names and of no other: issued by SEQ in the alarm path, and by EDGE as the
second step of its run where EDGE may run (R168, R219). -/
def Obligations.SetlvlDrivesOnePin : Prop :=
  (∀ arg : Arg, decode 0x30#8 arg = .ok (.setlvl arg.pin arg.level)) ∧
  ∀ (s t : State) (pin : Pin) (level : Bool),
    (s.port.issuer = .seq ∧ s.blk.pc = ⟨.alarmHandling, 0#4⟩ ∧
      t = { s with blk := { s.blk with pc := ⟨.alarmHandling, 1#4⟩ }, port := { s.port with res := .none } }) ∨
    (s.port.issuer = .edge ∧ s.edge.pos ≠ .rest ∧ (s.cfg.edgePreempts = true ∨ s.blk.pc = ⟨.idle, 0#4⟩) ∧
      t = { s with edge := { s.edge with pos := .rest }, port := { s.port with res := .none } }) →
    exec (.setlvl pin level) s = .next { t with
      side := { s.side with
        relay := if pin = .relay then level else s.side.relay
        diag := if pin = .diag then level else s.side.diag
        edgePin := if pin = .edge then level else s.side.edgePin } }

/-- RDLVL (R167) answers the level of the pin and changes no level: EDGE issues it as the first step of a run that an event
has made due (R168), where EDGE may run (R219). -/
def Obligations.RdlvlReadsOnePin : Prop :=
  (∀ arg : Arg, decode 0x31#8 arg = .ok (.rdlvl arg.pin)) ∧
  ∀ (s : State) (pin : Pin) (l : Bool), s.port.issuer = .edge → s.edge.pos = .rest → 0 < s.edge.runs →
    (s.cfg.edgePreempts = true ∨ s.blk.pc = ⟨.idle, 0#4⟩) →
    l = (match pin with | .relay => s.side.relay | .diag => s.side.diag | .edge => s.side.edgePin) →
    exec (.rdlvl pin) s = .next { s with
      edge := { pos := .toggle l, runs := s.edge.runs - 1 }
      port := { s.port with res := .q1 (BitVec.ofNat 1 l.toNat) } }

/-- LOG (R169): the notice is appended to LOGS, in the alarm path by SEQ, where the ready-wait gave up by HOST, and by HOST
wherever it is, for the outcome that the display sink's own initialisation has had (R210, R247; logs 28 and 36). -/
def Obligations.LogAppendsTheNotice : Prop :=
  (∀ arg : Arg, decode 0x40#8 arg = .ok (.log arg.notice)) ∧
  ∀ (s : State) (notice : Notice),
    (s.port.issuer = .seq → s.blk.pc = ⟨.alarmHandling, 1#4⟩ →
      exec (.log notice) s = .next { s with
        side := { s.side with logs := s.side.logs ++ [notice] }
        blk := { s.blk with pc := ⟨.alarmHandling, 2#4⟩ }
        port := { s.port with res := .none } }) ∧
    (s.port.issuer = .host → s.boot.pos = .oscTimeout →
      exec (.log .oscTimeout) s = .next { s with
        side := { s.side with logs := s.side.logs ++ [.oscTimeout] }
        boot := { s.boot with pos := .step 6 }
        port := { s.port with res := .none } }) ∧
    (s.port.issuer = .host → ∀ outcome : InitOutcome, s.side.sinkInit = some outcome →
      exec (.log (.displayInit outcome)) s = .next { s with
        side := { s.side with logs := s.side.logs ++ [.displayInit outcome] }
        port := { s.port with res := .none } })

/-! ## The initialisation family (43_init) -/

/-- RSTCAUSE (R181): RES[1] = POR, RES[0] = PINRST, and neither indication changes. RDSENT (R182) and the cold-start decision
after it (R194, the table of R195): to hpc 3 where the table says cold, to hpc 12 where it does not; the sentinel stays. -/
def Obligations.CauseAndSentinelDecideTheColdStart : Prop :=
  (∀ arg : Arg, decode 0x0F#8 arg = .ok .rstcause ∧ decode 0x09#8 arg = .ok .rdsent) ∧
  ∀ s : State, s.port.issuer = .host →
    (s.boot.pos = .step 1 →
      exec .rstcause s = .next { s with
        boot := { s.boot with por := s.env.por, pin := s.env.pinrst, pos := .step 2 }
        port := { s.port with res := .q2 (BitVec.ofNat 2 (2 * s.env.por.toNat + s.env.pinrst.toNat)) } }) ∧
    (s.boot.pos = .step 2 →
      exec .rdsent s = .next { s with
        boot := { s.boot with
          sent := s.cri.sent
          pos :=
            match s.boot.por, decide (s.cri.sent = s.cfg.sentinel), s.boot.pin with
            | false, false, false => .step 3
            | false, false, true => .step 3
            | false, true, false => .step 12
            | false, true, true => .step 3
            | true, false, false => .step 12
            | true, false, true => .step 3
            | true, true, false => .step 12
            | true, true, true => .step 3 }
        port := { s.port with res := .q16 s.cri.sent } })

/-- WRSENT (R183) writes the sentinel register with BKPWE = 1, and with BKPWE = 0 is refused as locked wherever it is issued: that
the lock is tested before the position is the model's choice (log 24). -/
def Obligations.WrsentWritesTheSentinel : Prop :=
  (∀ arg : Arg, decode 0x0A#8 arg = .ok (.wrsent (arg.bits.setWidth 16))) ∧
  ∀ (s : State) (value : Half),
    (s.port.issuer = .host → s.boot.pos = .step 11 → s.cri.bkpwe = true →
      exec (.wrsent value) s = .next { s with
        cri := { s.cri with sent := value }
        boot := { s.boot with pos := .step 12 }
        port := { s.port with res := .none } }) ∧
    (s.cri.bkpwe = false → exec (.wrsent value) s = .refused .backupLocked)

/-- RSTBKP (R184): the sentinel reads as absent, CNT, ALARM and PRESC are draws of their widths, the oscillator selection,
the enables and the flags are inactive, and OSC_READY is 0 (R186, R245). -/
def Obligations.RstbkpResetsTheBackupDomain : Prop :=
  (∀ arg : Arg, decode 0x0B#8 arg = .ok .rstbkp) ∧
  ∀ s : State, s.port.issuer = .host → s.boot.pos = .step 3 → s.cri.bkpwe = true →
    exec .rstbkp s = .next { s with
      cri := { s.cri with
        sent := s.cfg.bkpReset
        cnt := Config.free s.draws
        alarm := Config.free (s.draws + 1)
        presc := BitVec.ofNat 32 ((Config.free (s.draws + 2)).toNat % 2 ^ s.cfg.prescW)
        osc := .none
        tickie := false
        alrie := false
        tickf := false
        alrf := false }
      env := { s.env with oscReady := false }
      boot := { s.boot with pos := .step 4 }
      draws := s.draws + 3
      port := { s.port with res := .none } }

/-- SELOSC (R185) writes OSC with either source; the ready-wait then starts at 0 polls (R187). -/
def Obligations.SeloscSelectsTheSource : Prop :=
  (∀ arg : Arg, decode 0x0C#8 arg = .ok (.selosc (if arg.bits.getLsbD 0 then .external else .internal))) ∧
  ∀ (s : State) (source : OscSource), s.port.issuer = .host → s.boot.pos = .step 4 → s.cri.bkpwe = true →
    exec (.selosc source) s = .next { s with
      cri := { s.cri with osc := match source with | .internal => .internal | .external => .external }
      boot := { s.boot with pos := .step 5, polls := 0 }
      port := { s.port with res := .none } }

/-- OSCRDY (R186) in the ready-wait (R187): it answers OSC_READY and changes no register; ready goes on with step 6; not
ready polls again, without a bound for the internal source, and for the external one until OSC_WAIT_ITERS polls have failed,
when LOG(OSC_TIMEOUT) is next. -/
def Obligations.OscrdyPollsInTheReadyWait : Prop :=
  (∀ arg : Arg, decode 0x10#8 arg = .ok .oscrdy) ∧
  ∀ s : State, s.port.issuer = .host → s.boot.pos = .step 5 →
    exec .oscrdy s = .next { s with
      boot :=
        if s.env.oscReady = true then { s.boot with pos := .step 6 }
        else if s.cfg.oscSource = .internal then s.boot
        else { s.boot with
          polls := s.boot.polls + 1
          pos := if s.boot.polls + 1 = s.cfg.oscWaitIters then .oscTimeout else .step 5 }
      port := { s.port with res := .q1 (BitVec.ofNat 1 s.env.oscReady.toNat) } }

/-- CFGPRE (R188) writes PRESC: a divisor that fits in PRESC_W bits is stored whole; of a wider one the low PRESC_W bits
(the model's reading of R65, log 21). -/
def Obligations.CfgpreWritesThePrescaler : Prop :=
  (∀ arg : Arg, decode 0x03#8 arg = .ok (.cfgpre arg.bits)) ∧
  ∀ (s : State) (divisor : Word), s.port.issuer = .host → s.boot.pos = .step 6 → s.cri.bkpwe = true →
    (∃ v : Word, v.toNat = divisor.toNat % 2 ^ s.cfg.prescW ∧ (divisor.toNat < 2 ^ s.cfg.prescW → v = divisor) ∧
      exec (.cfgpre divisor) s = .next { s with
        cri := { s.cri with presc := v }
        boot := { s.boot with pos := .step 7 }
        port := { s.port with res := .none } })

/-- SETCNT (R189) writes all 32 bits of CNT in one step, changes no flag and matches no alarm; SETALR (R190) writes ALARM, and
changes no flag either. -/
def Obligations.SetcntAndSetalrWriteWholeValues : Prop :=
  (∀ arg : Arg, decode 0x04#8 arg = .ok (.setcnt arg.bits) ∧ decode 0x05#8 arg = .ok (.setalr arg.bits)) ∧
  ∀ (s : State) (value : Word), s.port.issuer = .host → s.cri.bkpwe = true →
    (s.boot.pos = .step 7 →
      exec (.setcnt value) s = .next { s with
        cri := { s.cri with cnt := value }
        boot := { s.boot with pos := .step 8 }
        port := { s.port with res := .none } }) ∧
    (s.boot.pos = .step 8 →
      exec (.setalr value) s = .next { s with
        cri := { s.cri with alarm := value }
        boot := { s.boot with pos := .step 9 }
        port := { s.port with res := .none } })

/-- UNLOCKBKP (R180) sets BKPWE, whatever it was; ENIRQ (R191) sets both enables; REGHANDLER (R192) sets HREG, locked or not. -/
def Obligations.HostSetsLockEnablesAndHandler : Prop :=
  (∀ arg : Arg,
    decode 0x0E#8 arg = .ok .unlockbkp ∧
    decode 0x06#8 arg = .ok .enirq ∧
    decode 0x11#8 arg = .ok .reghandler) ∧
  ∀ s : State, s.port.issuer = .host →
    (s.boot.pos = .step 0 →
      exec .unlockbkp s = .next { s with
        cri := { s.cri with bkpwe := true }
        boot := { s.boot with pos := .step 1 }
        port := { s.port with res := .none } }) ∧
    (s.boot.pos = .step 9 → s.cri.bkpwe = true →
      exec .enirq s = .next { s with
        cri := { s.cri with tickie := true, alrie := true }
        boot := { s.boot with pos := .step 10 }
        port := { s.port with res := .none } }) ∧
    (s.boot.pos = .step 10 →
      exec .reghandler s = .next { s with
        side := { s.side with hreg := true }
        boot := { s.boot with pos := .step 11 }
        port := { s.port with res := .none } })

/-- WAITSYNC (R193): step a clears RSF; step b passes when RSF = 1 and has no effect; with RSF = 0 the host waits where it is. -/
def Obligations.WaitsyncClearsThenWaits : Prop :=
  (∀ arg : Arg, decode 0x0D#8 arg = .ok .waitsync) ∧
  ∀ s : State, s.port.issuer = .host →
    (s.boot.pos = .step 12 →
      exec .waitsync s = .next { s with
        cri := { s.cri with rsf := false }
        boot := { s.boot with pos := .syncWait }
        port := { s.port with res := .none } }) ∧
    (s.boot.pos = .syncWait → s.cri.rsf = true →
      exec .waitsync s = .next { s with
        boot := { s.boot with pos := .done }
        port := { s.port with res := .none } }) ∧
    (s.boot.pos = .syncWait → s.cri.rsf = false →
      exec .waitsync s = .next { s with port := { s.port with res := .none } })

/-! ## Refusals (20_memory R68, 30_encoding R90 and R91) -/

/-- With BKPWE = 0 each of the seven backup-domain writes is refused, wherever and by whomever it is issued (R68); the two
flag clears are not gated: CLRALR runs with BKPWE = 0 as with 1. -/
def Obligations.LockedWritesAreRefused : Prop :=
  ∀ (s : State) (value divisor : Word) (half : Half) (source : OscSource), s.cri.bkpwe = false →
    exec .rstbkp s = .refused .backupLocked ∧ exec (.selosc source) s = .refused .backupLocked ∧
    exec (.cfgpre divisor) s = .refused .backupLocked ∧ exec (.setcnt value) s = .refused .backupLocked ∧
    exec (.setalr value) s = .refused .backupLocked ∧ exec .enirq s = .refused .backupLocked ∧
    exec (.wrsent half) s = .refused .backupLocked ∧
    (s.port.issuer = .seq → s.blk.pc = ⟨.alarmHandling, 2#4⟩ →
      ∃ t, exec .clralr s = .next t ∧ t.cri = { s.cri with alrf := false }) ∧
    (s.port.issuer = .seq → s.blk.pc = ⟨.rendering, 5#4⟩ →
      ∃ t, exec .clrtick s = .next t ∧ t.cri = { s.cri with tickf := false })

/-- The decoder is total: the codes of the groups that R83 to R85 list decode, every other code is reserved, and whoever
issues it is refused (R90). -/
def Obligations.ReservedCodesAreRefused : Prop :=
  ∀ (s : State) (agent : Agent) (word : Byte) (arg : Arg),
    ((1 ≤ word.toNat ∧ word.toNat ≤ 0x12) ∨ (0x20 ≤ word.toNat ∧ word.toNat ≤ 0x23) ∨ word = 0x30#8 ∨ word = 0x31#8 ∨
      word = 0x40#8 ∨ (0x80 ≤ word.toNat ∧ word.toNat ≤ 0x88) →
      ∃ i, decode word arg = .ok i) ∧
    (¬((1 ≤ word.toNat ∧ word.toNat ≤ 0x12) ∨ (0x20 ≤ word.toNat ∧ word.toNat ≤ 0x23) ∨ word = 0x30#8 ∨ word = 0x31#8 ∨
      word = 0x40#8 ∨ (0x80 ≤ word.toNat ∧ word.toNat ≤ 0x88)) →
      decode word arg = .error (.reservedCode word) ∧ issueWord agent word arg s = .refused (.reservedCode word))

/-- What HOST issues out of INIT's order is refused as a violation of the host protocol (R91): with the domain unlocked, an
operation of INIT whose step is not the one HOST is at, and any operation that INIT does not hold, a notice of an outcome that the
display sink's own initialisation has not had among them (log 28). -/
def Obligations.HostOutOfOrderIsRefused : Prop :=
  ∀ (s : State) (i : Instr), s.port.issuer = .host → s.cri.bkpwe = true →
    (∀ j, hostInstr s = some j → encodeWord i ≠ encodeWord j) →
    (∀ outcome, s.side.sinkInit = some outcome → i ≠ .log (.displayInit outcome)) →
    exec i s = .refused .hostProtocol

/-- What SEQ or EDGE is said to issue where R93 does not list it is refused as a sequence no rule produces (R91, U5): an
operation whose code is not the one at SEQ's pc, or not the one EDGE's run is at, or EDGE's at all where R219 does not let it run. -/
def Obligations.OffSequenceIssuesAreRefused : Prop :=
  ∀ (s : State) (i : Instr), s.cri.bkpwe = true →
    (s.port.issuer = .seq → (∀ j, seqInstr s = some j → encodeWord i ≠ encodeWord j) →
      exec i s = .refused .offSequence) ∧
    (s.port.issuer = .edge → (∀ j, edgeInstr s = some j → (s.cfg.edgePreempts = true ∨ s.blk.pc = ⟨.idle, 0#4⟩) →
        encodeWord i ≠ encodeWord j) →
      exec i s = .refused .offSequence)

/-! ## Steps of the machine -/

/-- A line that names an operation word: if the word decodes, the step is the decoded operation, run on the state with the
line taken off and the word, its ARG and its issuer on the ports. -/
def Obligations.StepRunsTheDecodedOperation : Prop :=
  ∀ (s : State) (agent : Agent) (word : Byte) (arg : Arg) (rest : List Line) (i : Instr),
    s.sched = .op agent word arg :: rest → decode word arg = .ok i →
    step s = exec i { s with
      sched := rest
      port := { s.port with op := word, arg := arg, issuer := agent } }

/-- An agent's turn: the step is the operation that the agent's sequence lists where it is (R93, R170, R194), issued by its
word; with nothing left on the list of coming steps, the step is a freely chosen move. -/
def Obligations.StepRunsTheAgentsNextOperation : Prop :=
  ∀ (s : State) (rest : List Line) (i : Instr),
    (s.sched = .move .seq :: rest → s.blk.pc ≠ ⟨.idle, 0#4⟩ → seqInstr s = some i →
      step s = exec i { s with
        sched := rest
        port := { s.port with op := (encode i).1, arg := (encode i).2, issuer := .seq } }) ∧
    (s.sched = .move .host :: rest → hostInstr s = some i →
      step s = exec i { s with
        sched := rest
        port := { s.port with op := (encode i).1, arg := (encode i).2, issuer := .host } }) ∧
    (s.sched = .move .edge :: rest → s.cfg.edgePreempts = true ∨ s.blk.pc = ⟨.idle, 0#4⟩ → edgeInstr s = some i →
      step s = exec i { s with
        sched := rest
        port := { s.port with op := (encode i).1, arg := (encode i).2, issuer := .edge } }) ∧
    (s.sched = [] → step s = takeMove (Config.freeMove s.draws) { s with draws := s.draws + 1 })

/-- Decoding an operation's words gives the operation back, whatever its arguments (R80 to R86); and the code of a decoded
operation is the code it was decoded from, so no two codes name one operation. -/
def Obligations.DecodeAndEncodeAgree : Prop :=
  (∀ i : Instr, decode (encode i).1 (encode i).2 = .ok i) ∧
  (∀ (word : Byte) (arg : Arg) (i : Instr), decode word arg = .ok i → (encode i).1 = word)

/-- The words of some operations, bit by bit, as R83 to R86 give them: one of each group, with its arguments. -/
def Obligations.TableWordsDecode : Prop :=
  decodeTableWord 8 0b00000001 = some .rdh ∧ decodeTableWord 8 0b00010010 = some .rdflags ∧
  decodeTableWord 8 0b00100011 = some .commit ∧ decodeTableWord 8 0b10001000 = some .monscan ∧
  decode 0b00000100#8 { Arg.zero with bits := 0x5FEE6600#32 } = .ok (.setcnt 0x5FEE6600#32) ∧
  decode 0b00001100#8 { Arg.zero with bits := 1#32 } = .ok (.selosc .external) ∧
  decode 0b00110000#8 { Arg.zero with pin := .diag, level := true } = .ok (.setlvl .diag true) ∧
  decode 0b01000000#8 { Arg.zero with notice := .alarmFired } = .ok (.log .alarmFired) ∧
  decode 0b00010011#8 Arg.zero = .error (.reservedCode 0x13#8)

/-- VECTOR (R150): at (Idle,0), with the handler registered and a flag set and enabled, SEQ's turn moves pc to (Entry,0) and
changes nothing else; where the condition does not hold SEQ is stuck and nothing changes. -/
def Obligations.VectorEntersFromIdle : Prop :=
  ∀ s : State, s.blk.pc = ⟨.idle, 0#4⟩ →
    (s.side.hreg = true ∧ ((s.cri.tickf = true ∧ s.cri.tickie = true) ∨ (s.cri.alrf = true ∧ s.cri.alrie = true)) →
      takeMove .seq s = .next { s with blk := { s.blk with pc := ⟨.entry, 0#4⟩ } }) ∧
    (¬(s.side.hreg = true ∧ ((s.cri.tickf = true ∧ s.cri.tickie = true) ∨ (s.cri.alrf = true ∧ s.cri.alrie = true))) →
      takeMove .seq s = .next s)

/-- Every transition of pc (R170): from a listed pc, SEQ's turn leads to the table's successor, which is listed too. -/
def Obligations.SequencerFollowsTheTable : Prop :=
  ∀ s t : State, listedPc s.blk.pc = true → takeMove .seq s = .next t →
    t.blk.pc = tableNext s t ∧ listedPc t.blk.pc = true

/-- The turn of an agent that has nothing to do changes nothing (the model's choice, log 5): HOST past INIT, EDGE with no event
waiting, and EDGE where R219 does not let it preempt SEQ. -/
def Obligations.IdleTurnsChangeNothing : Prop :=
  ∀ s : State,
    (s.boot.pos = .done → takeMove .host s = .next s) ∧
    (s.edge.pos = .rest → s.edge.runs = 0 → takeMove .edge s = .next s) ∧
    (s.cfg.edgePreempts = false → s.blk.pc ≠ ⟨.idle, 0#4⟩ → takeMove .edge s = .next s)

/-- CTR.INC (R42): with an oscillator selected, CNT goes on by one modulo 2^32, TICKF is set, ALRF is set if the new value is
ALARM and else kept, and nothing else changes; with OSC = NONE the step is not enabled. -/
def Obligations.CounterIncrementSetsTheFlags : Prop :=
  ∀ s : State,
    (s.cri.osc ≠ .none →
      takeMove .ctrInc s = .next { s with
        cri := { s.cri with
          cnt := BitVec.ofNat 32 (s.cri.cnt.toNat + 1)
          tickf := true
          alrf := if (s.cri.cnt.toNat + 1) % 2 ^ 32 = s.cri.alarm.toNat then true else s.cri.alrf } }) ∧
    (s.cri.osc = .none → takeMove .ctrInc s = .next s)

/-- ENV.RESET(por, pin) (R240, R242, R245): pc and hpc are at their starts, the causes are the event's, the listed lists and
bits are cleared, MDAYS keeps its constants, and the whole backup domain and OSC_READY are not touched. -/
def Obligations.SystemResetKeepsTheBackupDomain : Prop :=
  ∀ (s : State) (por pin : Bool), ∃ t : State, takeMove (.reset por pin) s = .next t ∧
    t.blk.pc = ⟨.idle, 0#4⟩ ∧ t.boot.pos = .step 0 ∧ t.env = { s.env with por := por, pinrst := pin } ∧
    t.cri = { s.cri with bkpwe := false, rsf := t.cri.rsf } ∧
    t.side.displayReady = false ∧ t.side.dbuf = [] ∧ t.side.panel = [] ∧ t.side.logs = [] ∧
    t.blk.mdays = MonthTable.withFebruary t.blk.mdays.m2 ∧ t.cfg = s.cfg

/-- ENV.BACKUP_LOSS with its ENV.RESET (R244): the domain is as RSTBKP leaves it, without its lock test, and the block as the
reset leaves it. -/
def Obligations.BackupLossMakesTheSentinelAbsent : Prop :=
  ∀ (s : State) (por pin : Bool), s.cfg.wf = true → ∃ t : State, takeMove (.backupLoss por pin) s = .next t ∧
    t.cri.sent = s.cfg.bkpReset ∧ t.cri.sent ≠ s.cfg.sentinel ∧ t.cri.osc = .none ∧
    t.cri.tickie = false ∧ t.cri.alrie = false ∧ t.cri.tickf = false ∧ t.cri.alrf = false ∧ t.cri.bkpwe = false ∧
    t.env = { por := por, pinrst := pin, oscReady := false } ∧ t.blk.pc = ⟨.idle, 0#4⟩ ∧ t.boot.pos = .step 0

/-- The other environment steps: CTR.SYNC sets RSF (R43); HOST.DISPLAY_UP sets DISPLAY_READY (R48) unless the display sink's own
initialisation has failed; FC2 before its end makes it fail and appends the notice, with DISPLAY_READY as it was (R210, R212), and a
system reset starts it again (log 36);
ENV.OSC makes a selected oscillator ready (R186; not enabled without one, log 12); ENV.EDGE makes one more run of EDGE due and leaves
LEVEL(EDGE_PIN) free (R168, logs 14 and 15). Nothing else changes. -/
def Obligations.EnvironmentStepsChangeOneThing : Prop :=
  ∀ s : State,
    takeMove .ctrSync s = .next { s with cri := { s.cri with rsf := true } } ∧
    (s.side.sinkInit ≠ some .failed →
      takeMove .displayUp s = .next { s with side := { s.side with displayReady := true, sinkInit := some .ok } }) ∧
    (s.side.sinkInit = some .failed → takeMove .displayUp s = .next s) ∧
    (s.side.sinkInit = none → ∃ p : Port, takeMove .displayFailed s = .next { s with
      side := { s.side with sinkInit := some .failed, logs := s.side.logs ++ [.displayInit .failed] }
      port := p }) ∧
    (s.side.sinkInit ≠ none → takeMove .displayFailed s = .next s) ∧
    (s.side.sinkInit = some .ok → ∃ p : Port, takeMove .displayNotice s = .next { s with
      side := { s.side with logs := s.side.logs ++ [.displayInit .ok] }
      port := p }) ∧
    (s.side.sinkInit ≠ some .ok → takeMove .displayNotice s = .next s) ∧
    (∀ por pin : Bool, ∃ t : State, takeMove (.reset por pin) s = .next t ∧ t.side.sinkInit = none) ∧
    (s.cri.osc ≠ .none → takeMove .envOsc s = .next { s with env := { s.env with oscReady := true } }) ∧
    (s.cri.osc = .none → takeMove .envOsc s = .next s) ∧
    ∃ level : Bool, takeMove .envEdge s = .next { s with
      edge := { s.edge with runs := s.edge.runs + 1 }
      side := { s.side with edgePin := level }
      draws := s.draws + 1 }

/-! ## Invariants -/

/-- The state after reset is consistent and its display holds no partial frame. -/
def Obligations.ResetStateIsConsistent : Prop := Consistent State.reset ∧ FramesWhole State.reset

/-- Every step keeps consistency: a listed pc, the constants of MDAYS, the width of PRESC, an unlocked domain past hpc 0, equal
enables, no ready oscillator without a selected one (the model's reading of ENV.OSC, log 12), a ready-wait within its bound (R187,
logs 18 and 37), a ready display exactly where its initialisation went well (R48, R212, log 36), and a decode that agrees at every
stage with the calendar of RAW (R130, R136). -/
def Obligations.StepKeepsConsistency : Prop :=
  ∀ s t : State, Consistent s → step s = .next t → Consistent t

/-- No operation traps (R214): from a consistent state no step faults. -/
def Obligations.ConsistentStatesNeverFault : Prop :=
  ∀ (s : State) (f : Fault), Consistent s → step s ≠ .fault f

/-- The agents' own sequences are never refused (R91, R198, R214): from a consistent state, a step that is a move (an agent's
turn or an environment step, chosen by the list of coming steps or freely) always has a next state. -/
def Obligations.AgentsAreNeverRefused : Prop :=
  ∀ s : State, Consistent s → (∀ l ∈ s.sched.head?, isMoveLine l = true) → ∃ t, step s = .next t

/-- The buffering property (R165): PANEL never holds a mixture of two ticks' texts and never a partial frame. -/
def Obligations.StepKeepsFramesWhole : Prop :=
  ∀ s t : State, Consistent s → FramesWhole s → step s = .next t → FramesWhole t

/-- Who writes what (R20, R44, R78): among the coded operations SENT is written by WRSENT and RSTBKP alone, CNT by SETCNT and
RSTBKP alone, ALARM by SETALR and RSTBKP, the flags by their clears and RSTBKP, the enables by ENIRQ and RSTBKP, OSC by SELOSC
and RSTBKP, PRESC by CFGPRE and RSTBKP, RSF by WAITSYNC, BKPWE by UNLOCKBKP; DISPLAY_READY, the outcome of the display's
initialisation (log 36) and the reset causes by none. -/
def Obligations.RegistersHaveTheirWriters : Prop :=
  ∀ (i : Instr) (s t : State), exec i s = .next t →
    ((∃ v, i = .wrsent v) ∨ i = .rstbkp ∨ t.cri.sent = s.cri.sent) ∧
    ((∃ v, i = .setcnt v) ∨ i = .rstbkp ∨ t.cri.cnt = s.cri.cnt) ∧
    ((∃ v, i = .setalr v) ∨ i = .rstbkp ∨ t.cri.alarm = s.cri.alarm) ∧
    ((∃ v, i = .cfgpre v) ∨ i = .rstbkp ∨ t.cri.presc = s.cri.presc) ∧
    ((∃ v, i = .selosc v) ∨ i = .rstbkp ∨ t.cri.osc = s.cri.osc) ∧
    (i = .enirq ∨ i = .rstbkp ∨ (t.cri.tickie = s.cri.tickie ∧ t.cri.alrie = s.cri.alrie)) ∧
    (i = .clrtick ∨ i = .rstbkp ∨ t.cri.tickf = s.cri.tickf) ∧
    (i = .clralr ∨ i = .rstbkp ∨ t.cri.alrf = s.cri.alrf) ∧
    (i = .waitsync ∨ t.cri.rsf = s.cri.rsf) ∧ (i = .unlockbkp ∨ t.cri.bkpwe = s.cri.bkpwe) ∧
    t.side.displayReady = s.side.displayReady ∧ t.side.sinkInit = s.side.sinkInit ∧
    t.env.por = s.env.por ∧ t.env.pinrst = s.env.pinrst ∧ t.cfg = s.cfg

/-- EDGE and the dispatcher do not interact (R219, R264): with EDGE_PREEMPTS a whole run of EDGE between two steps of SEQ
inverts LEVEL(DIAG_PIN), uses up one event, and changes no result of SEQ. -/
def Obligations.EdgeRunsDoNotDisturbTheSequencer : Prop :=
  ∀ s t : State, s.cfg.edgePreempts = true → s.edge.pos = .rest → 0 < s.edge.runs → runMoves [.edge, .edge, .seq] s = .next t →
    ∃ u : State, runMoves [.seq] s = .next u ∧ t.cri = u.cri ∧ t.blk = u.blk ∧ t.boot = u.boot ∧ t.env = u.env ∧
      t.draws = u.draws ∧ t.side = { u.side with diag := !s.side.diag } ∧ t.edge = { s.edge with runs := s.edge.runs - 1 }

/-! ## Paths of the machine -/

/-- The display-not-ready skip (R156): the invocation is VECTOR, RDFLAGS, DSPRDY, CLRTICK and nothing else; TICKF is 0
afterwards, and every capture register, the decoder's registers, CM, MDAYS, DBUF and PANEL keep what they held. -/
def Obligations.SkipPathTouchesNothing : Prop :=
  ∀ s : State, s.blk.pc = ⟨.idle, 0#4⟩ → s.side.hreg = true → s.cri.tickf = true →
    (s.cri.tickie = true ∨ (s.cri.alrf = true ∧ s.cri.alrie = true)) → s.side.displayReady = false →
    ∃ p : Port, runMoves [.seq, .seq, .seq, .seq] s = .next { s with
      cri := { s.cri with tickf := false }
      blk := { s.blk with ready := false }
      port := p }

/-- The alarm path (R160): with the tick flag clear and the alarm flag set and enabled, five steps of SEQ drive the relay to
its off level, append ALARM_FIRED, clear ALRF and return; no counter read, no decode, no display operation. -/
def Obligations.AlarmPathTurnsTheRelayOff : Prop :=
  ∀ s : State, s.blk.pc = ⟨.idle, 0#4⟩ → s.side.hreg = true → s.cri.tickf = false → s.cri.alrf = true → s.cri.alrie = true →
    ∃ p : Port, runMoves [.seq, .seq, .seq, .seq, .seq] s = .next { s with
      cri := { s.cri with alrf := false }
      side := { s.side with relay := s.cfg.relayOff, logs := s.side.logs ++ [.alarmFired] }
      port := p }

/-- The rollover-safe read (R105): RSF = 1 throughout, n1 increments between the first two reads, n2 between the next two, and
n3 before the fourth. At most 65536 increments between the first and the last read, RAW is the counter's value at the instant of the
low read that it uses: the first one where the high reads agree, the re-read one where they differ. It lies at most that many
increments after the value at the first read. -/
def Obligations.SafeReadIsExact : Prop :=
  ∀ (s : State) (n1 n2 n3 : Nat), s.blk.pc = ⟨.reading, 0#4⟩ → s.cri.rsf = true → s.cri.osc ≠ .none →
    (s.cri.cnt.toNat / 65536 = (s.cri.cnt.toNat + n1 + n2) % 2 ^ 32 / 65536 → n1 + n2 ≤ 65536 →
      ∃ t, runMoves ([.seq] ++ List.replicate n1 .ctrInc ++ [.seq] ++ List.replicate n2 .ctrInc ++ [.seq, .seq]) s = .next t ∧
        t.blk.pc = ⟨.decoding, 0#4⟩ ∧ t.blk.raw = s.cri.cnt + BitVec.ofNat 32 n1 ∧
        (t.blk.raw - s.cri.cnt).toNat ≤ n1 + n2) ∧
    (s.cri.cnt.toNat / 65536 ≠ (s.cri.cnt.toNat + n1 + n2) % 2 ^ 32 / 65536 → n1 + n2 + n3 ≤ 65536 →
      ∃ t, runMoves ([.seq] ++ List.replicate n1 .ctrInc ++ [.seq] ++ List.replicate n2 .ctrInc ++ [.seq] ++
          List.replicate n3 .ctrInc ++ [.seq, .seq]) s = .next t ∧
        t.blk.pc = ⟨.decoding, 0#4⟩ ∧ t.blk.raw = s.cri.cnt + BitVec.ofNat 32 (n1 + n2 + n3) ∧ t.cri.cnt = t.blk.raw ∧
        (t.blk.raw - s.cri.cnt).toNat ≤ n1 + n2 + n3)

/-- The smallest failing schedule (R107): CNT = 0x0000FFFF at the first read, one increment before the second high read and
65536 before the re-read of the low half give RAW = 0x00010000 while CNT is 0x00020000. -/
def Obligations.SafeReadFailsPastItsPremise : Prop :=
  ∀ s : State, s.blk.pc = ⟨.reading, 0#4⟩ → s.cri.rsf = true → s.cri.osc ≠ .none → s.cri.cnt = 0x0000FFFF#32 →
    ∃ t, runMoves ([.seq, .seq, .ctrInc, .seq] ++ List.replicate 65536 .ctrInc ++ [.seq, .seq]) s = .next t ∧
      t.blk.raw = 0x00010000#32 ∧ t.cri.cnt = 0x00020000#32

/-- One full tick path (R155, with the step count of R266): from (Idle,0) with a tick pending, the display ready and the
registers synchronised, 21 + k steps of SEQ, with k the years subtracted, bring pc back to (Idle,0) with TICKF clear, CM the
calendar moment of CNT and PANEL its frame, for either TICK_CLEAR_POINT; the counter, the alarm, the notices and the pins are
untouched. -/
def Obligations.FullTickShowsTheCounter : Prop :=
  ∀ (s : State) (cm : Moment), s.blk.pc = ⟨.idle, 0#4⟩ → s.blk.mdays.wf = true → s.side.hreg = true →
    s.cri.tickf = true → s.cri.tickie = true → s.side.displayReady = true → s.cri.rsf = true → cm = calendar s.cri.cnt →
    ∃ t, runMoves (List.replicate (21 + (cm.year.toNat - 1970)) .seq) s = .next t ∧
      t.blk.pc = ⟨.idle, 0#4⟩ ∧ t.cri = { s.cri with tickf := false } ∧ t.blk.raw = s.cri.cnt ∧ t.blk.cm = cm ∧
      t.side = { s.side with dbuf := frame cm, panel := frame cm } ∧ t.boot = s.boot ∧ t.env = s.env ∧ t.draws = s.draws

/-- Every invocation of the block terminates (R263): from a consistent state, wherever SEQ is, at most 157 turns of SEQ alone
bring pc to (Idle,0). -/
def Obligations.EveryInvocationReturns : Prop :=
  ∀ s : State, Consistent s → ∃ n t, n ≤ 157 ∧ runMoves (List.replicate n .seq) s = .next t ∧ t.blk.pc = ⟨.idle, 0#4⟩

/-- What the decode is in calendar terms (R132): for every counter value, with e the value less 18000 modulo 2^32, the moment's
clock and the days of the years, months and date before it add up to e, its fields are in the ranges of R30, the weekday is that
of the day, and the year is at most 2106. -/
def Obligations.CalendarIsGregorian : Prop :=
  ∀ (v : Word) (e leap : Nat) (cm : Moment), cm = calendar v → e = (v.toNat + (2 ^ 32 - 18000)) % 2 ^ 32 →
    leap = (if isLeap cm.year.toNat then 1 else 0) →
    1970 ≤ cm.year.toNat ∧ cm.year.toNat ≤ 2106 ∧ 1 ≤ cm.month.toNat ∧ cm.month.toNat ≤ 12 ∧
    1 ≤ cm.date.toNat ∧ cm.date.toNat ≤ monthLen (isLeap cm.year.toNat) cm.month.toNat ∧
    1 ≤ cm.doy.toNat ∧ cm.doy.toNat ≤ 365 + leap ∧
    cm.doy.toNat = daysThrough (isLeap cm.year.toNat) (cm.month.toNat - 1) + cm.date.toNat ∧
    cm.weekday.toNat = (e / 86400 + 4) % 7 ∧
    e = 86400 * (daysOfYears (cm.year.toNat - 1970) + (cm.doy.toNat - 1)) +
      3600 * cm.hour.toNat + 60 * cm.minute.toNat + cm.second.toNat ∧
    cm.hour.toNat ≤ 23 ∧ cm.minute.toNat ≤ 59 ∧ cm.second.toNat ≤ 59

/-- A boot that is no cold start (R196): with the sentinel present and no pin reset, whatever POR is, INIT is UNLOCKBKP, RSTCAUSE,
RDSENT and WAITSYNC; it passes at the next synchronisation and writes no register of the backup domain. -/
def Obligations.WarmBootReseedsNothing : Prop :=
  ∀ s : State, s.boot.pos = .step 0 → s.cri.sent = s.cfg.sentinel → s.env.pinrst = false →
    ∃ t, runMoves [.host, .host, .host, .host, .ctrSync, .host] s = .next t ∧ t.boot.pos = .done ∧
      t.cri = { s.cri with bkpwe := true, rsf := true } ∧ t.side = s.side ∧ t.blk = s.blk ∧ t.draws = s.draws

/-- A completed cold start (R197), with no increment in between and the oscillator ready at the first poll: the counter seeded,
the deadline 15 seconds on, both sources enabled, the handler registered and the sentinel written. -/
def Obligations.ColdStartArmsTheClock : Prop :=
  ∀ s : State, s.cfg.wf = true → s.boot.pos = .step 0 →
    s.env.pinrst = true ∨ (s.env.por = false ∧ s.cri.sent ≠ s.cfg.sentinel) →
    ∃ t, runMoves [.host, .host, .host, .host, .host, .envOsc, .host, .host, .host, .host, .host, .host, .host, .host,
        .ctrSync, .host] s = .next t ∧ t.boot.pos = .done ∧
      t.cri.bkpwe = true ∧ t.cri.sent = s.cfg.sentinel ∧ t.cri.rsf = true ∧
      t.cri.osc = (match s.cfg.oscSource with | .internal => .internal | .external => .external) ∧
      t.cri.presc = (match s.cfg.oscSource with | .internal => s.cfg.prescInternal | .external => s.cfg.prescExternal) ∧
      t.cri.cnt = s.cfg.seed ∧ t.cri.alarm = s.cfg.seed + 15#32 ∧ t.cri.tickie = true ∧ t.cri.alrie = true ∧
      t.cri.tickf = false ∧ t.cri.alrf = false ∧ t.side = { s.side with hreg := true } ∧ t.blk = s.blk
end

