-- ==== Sys2Proof/Laws/State.lean ====
section
/-! SUPPORT. One lemma per field per update of the state: what each named update writes, and that it writes nothing else. -/

namespace Sys2Proof.Machine

variable (s : State)

/-! ### withCri -/

@[simp] theorem State.withCri_cfg (c : Cri) : (s.withCri c).cfg = s.cfg := rfl
@[simp] theorem State.withCri_cri (c : Cri) : (s.withCri c).cri = c := rfl
@[simp] theorem State.withCri_blk (c : Cri) : (s.withCri c).blk = s.blk := rfl
@[simp] theorem State.withCri_side (c : Cri) : (s.withCri c).side = s.side := rfl
@[simp] theorem State.withCri_boot (c : Cri) : (s.withCri c).boot = s.boot := rfl
@[simp] theorem State.withCri_edge (c : Cri) : (s.withCri c).edge = s.edge := rfl
@[simp] theorem State.withCri_env (c : Cri) : (s.withCri c).env = s.env := rfl
@[simp] theorem State.withCri_port (c : Cri) : (s.withCri c).port = s.port := rfl
@[simp] theorem State.withCri_draws (c : Cri) : (s.withCri c).draws = s.draws := rfl
@[simp] theorem State.withCri_sched (c : Cri) : (s.withCri c).sched = s.sched := rfl

/-! ### withBlk -/

@[simp] theorem State.withBlk_cfg (b : Block) : (s.withBlk b).cfg = s.cfg := rfl
@[simp] theorem State.withBlk_cri (b : Block) : (s.withBlk b).cri = s.cri := rfl
@[simp] theorem State.withBlk_blk (b : Block) : (s.withBlk b).blk = b := rfl
@[simp] theorem State.withBlk_side (b : Block) : (s.withBlk b).side = s.side := rfl
@[simp] theorem State.withBlk_boot (b : Block) : (s.withBlk b).boot = s.boot := rfl
@[simp] theorem State.withBlk_edge (b : Block) : (s.withBlk b).edge = s.edge := rfl
@[simp] theorem State.withBlk_env (b : Block) : (s.withBlk b).env = s.env := rfl
@[simp] theorem State.withBlk_port (b : Block) : (s.withBlk b).port = s.port := rfl
@[simp] theorem State.withBlk_draws (b : Block) : (s.withBlk b).draws = s.draws := rfl
@[simp] theorem State.withBlk_sched (b : Block) : (s.withBlk b).sched = s.sched := rfl

/-! ### withSide -/

@[simp] theorem State.withSide_cfg (h : HostSide) : (s.withSide h).cfg = s.cfg := rfl
@[simp] theorem State.withSide_cri (h : HostSide) : (s.withSide h).cri = s.cri := rfl
@[simp] theorem State.withSide_blk (h : HostSide) : (s.withSide h).blk = s.blk := rfl
@[simp] theorem State.withSide_side (h : HostSide) : (s.withSide h).side = h := rfl
@[simp] theorem State.withSide_boot (h : HostSide) : (s.withSide h).boot = s.boot := rfl
@[simp] theorem State.withSide_edge (h : HostSide) : (s.withSide h).edge = s.edge := rfl
@[simp] theorem State.withSide_env (h : HostSide) : (s.withSide h).env = s.env := rfl
@[simp] theorem State.withSide_port (h : HostSide) : (s.withSide h).port = s.port := rfl
@[simp] theorem State.withSide_draws (h : HostSide) : (s.withSide h).draws = s.draws := rfl
@[simp] theorem State.withSide_sched (h : HostSide) : (s.withSide h).sched = s.sched := rfl

/-! ### withBoot -/

@[simp] theorem State.withBoot_cfg (b : Boot) : (s.withBoot b).cfg = s.cfg := rfl
@[simp] theorem State.withBoot_cri (b : Boot) : (s.withBoot b).cri = s.cri := rfl
@[simp] theorem State.withBoot_blk (b : Boot) : (s.withBoot b).blk = s.blk := rfl
@[simp] theorem State.withBoot_side (b : Boot) : (s.withBoot b).side = s.side := rfl
@[simp] theorem State.withBoot_boot (b : Boot) : (s.withBoot b).boot = b := rfl
@[simp] theorem State.withBoot_edge (b : Boot) : (s.withBoot b).edge = s.edge := rfl
@[simp] theorem State.withBoot_env (b : Boot) : (s.withBoot b).env = s.env := rfl
@[simp] theorem State.withBoot_port (b : Boot) : (s.withBoot b).port = s.port := rfl
@[simp] theorem State.withBoot_draws (b : Boot) : (s.withBoot b).draws = s.draws := rfl
@[simp] theorem State.withBoot_sched (b : Boot) : (s.withBoot b).sched = s.sched := rfl

/-! ### withEdge -/

@[simp] theorem State.withEdge_cfg (e : Edge) : (s.withEdge e).cfg = s.cfg := rfl
@[simp] theorem State.withEdge_cri (e : Edge) : (s.withEdge e).cri = s.cri := rfl
@[simp] theorem State.withEdge_blk (e : Edge) : (s.withEdge e).blk = s.blk := rfl
@[simp] theorem State.withEdge_side (e : Edge) : (s.withEdge e).side = s.side := rfl
@[simp] theorem State.withEdge_boot (e : Edge) : (s.withEdge e).boot = s.boot := rfl
@[simp] theorem State.withEdge_edge (e : Edge) : (s.withEdge e).edge = e := rfl
@[simp] theorem State.withEdge_env (e : Edge) : (s.withEdge e).env = s.env := rfl
@[simp] theorem State.withEdge_port (e : Edge) : (s.withEdge e).port = s.port := rfl
@[simp] theorem State.withEdge_draws (e : Edge) : (s.withEdge e).draws = s.draws := rfl
@[simp] theorem State.withEdge_sched (e : Edge) : (s.withEdge e).sched = s.sched := rfl

/-! ### withEnv -/

@[simp] theorem State.withEnv_cfg (e : Env) : (s.withEnv e).cfg = s.cfg := rfl
@[simp] theorem State.withEnv_cri (e : Env) : (s.withEnv e).cri = s.cri := rfl
@[simp] theorem State.withEnv_blk (e : Env) : (s.withEnv e).blk = s.blk := rfl
@[simp] theorem State.withEnv_side (e : Env) : (s.withEnv e).side = s.side := rfl
@[simp] theorem State.withEnv_boot (e : Env) : (s.withEnv e).boot = s.boot := rfl
@[simp] theorem State.withEnv_edge (e : Env) : (s.withEnv e).edge = s.edge := rfl
@[simp] theorem State.withEnv_env (e : Env) : (s.withEnv e).env = e := rfl
@[simp] theorem State.withEnv_port (e : Env) : (s.withEnv e).port = s.port := rfl
@[simp] theorem State.withEnv_draws (e : Env) : (s.withEnv e).draws = s.draws := rfl
@[simp] theorem State.withEnv_sched (e : Env) : (s.withEnv e).sched = s.sched := rfl

/-! ### withPort -/

@[simp] theorem State.withPort_cfg (p : Port) : (s.withPort p).cfg = s.cfg := rfl
@[simp] theorem State.withPort_cri (p : Port) : (s.withPort p).cri = s.cri := rfl
@[simp] theorem State.withPort_blk (p : Port) : (s.withPort p).blk = s.blk := rfl
@[simp] theorem State.withPort_side (p : Port) : (s.withPort p).side = s.side := rfl
@[simp] theorem State.withPort_boot (p : Port) : (s.withPort p).boot = s.boot := rfl
@[simp] theorem State.withPort_edge (p : Port) : (s.withPort p).edge = s.edge := rfl
@[simp] theorem State.withPort_env (p : Port) : (s.withPort p).env = s.env := rfl
@[simp] theorem State.withPort_port (p : Port) : (s.withPort p).port = p := rfl
@[simp] theorem State.withPort_draws (p : Port) : (s.withPort p).draws = s.draws := rfl
@[simp] theorem State.withPort_sched (p : Port) : (s.withPort p).sched = s.sched := rfl

/-! ### withSched -/

@[simp] theorem State.withSched_cfg (ls : List Line) : (s.withSched ls).cfg = s.cfg := rfl
@[simp] theorem State.withSched_cri (ls : List Line) : (s.withSched ls).cri = s.cri := rfl
@[simp] theorem State.withSched_blk (ls : List Line) : (s.withSched ls).blk = s.blk := rfl
@[simp] theorem State.withSched_side (ls : List Line) : (s.withSched ls).side = s.side := rfl
@[simp] theorem State.withSched_boot (ls : List Line) : (s.withSched ls).boot = s.boot := rfl
@[simp] theorem State.withSched_edge (ls : List Line) : (s.withSched ls).edge = s.edge := rfl
@[simp] theorem State.withSched_env (ls : List Line) : (s.withSched ls).env = s.env := rfl
@[simp] theorem State.withSched_port (ls : List Line) : (s.withSched ls).port = s.port := rfl
@[simp] theorem State.withSched_draws (ls : List Line) : (s.withSched ls).draws = s.draws := rfl
@[simp] theorem State.withSched_sched (ls : List Line) : (s.withSched ls).sched = ls := rfl

/-! ### drawn -/

@[simp] theorem State.drawn_cfg (n : Nat) : (s.drawn n).cfg = s.cfg := rfl
@[simp] theorem State.drawn_cri (n : Nat) : (s.drawn n).cri = s.cri := rfl
@[simp] theorem State.drawn_blk (n : Nat) : (s.drawn n).blk = s.blk := rfl
@[simp] theorem State.drawn_side (n : Nat) : (s.drawn n).side = s.side := rfl
@[simp] theorem State.drawn_boot (n : Nat) : (s.drawn n).boot = s.boot := rfl
@[simp] theorem State.drawn_edge (n : Nat) : (s.drawn n).edge = s.edge := rfl
@[simp] theorem State.drawn_env (n : Nat) : (s.drawn n).env = s.env := rfl
@[simp] theorem State.drawn_port (n : Nat) : (s.drawn n).port = s.port := rfl
@[simp] theorem State.drawn_draws (n : Nat) : (s.drawn n).draws = s.draws + n := rfl
@[simp] theorem State.drawn_sched (n : Nat) : (s.drawn n).sched = s.sched := rfl

/-! ### goto -/

@[simp] theorem State.goto_cfg (st : SeqState) (k : BitVec 4) : (s.goto st k).cfg = s.cfg := rfl
@[simp] theorem State.goto_cri (st : SeqState) (k : BitVec 4) : (s.goto st k).cri = s.cri := rfl
@[simp] theorem State.goto_blk (st : SeqState) (k : BitVec 4) : (s.goto st k).blk = { s.blk with pc := ⟨st, k⟩ } := rfl
@[simp] theorem State.goto_side (st : SeqState) (k : BitVec 4) : (s.goto st k).side = s.side := rfl
@[simp] theorem State.goto_boot (st : SeqState) (k : BitVec 4) : (s.goto st k).boot = s.boot := rfl
@[simp] theorem State.goto_edge (st : SeqState) (k : BitVec 4) : (s.goto st k).edge = s.edge := rfl
@[simp] theorem State.goto_env (st : SeqState) (k : BitVec 4) : (s.goto st k).env = s.env := rfl
@[simp] theorem State.goto_port (st : SeqState) (k : BitVec 4) : (s.goto st k).port = s.port := rfl
@[simp] theorem State.goto_draws (st : SeqState) (k : BitVec 4) : (s.goto st k).draws = s.draws := rfl
@[simp] theorem State.goto_sched (st : SeqState) (k : BitVec 4) : (s.goto st k).sched = s.sched := rfl

/-! ### hostGoto -/

@[simp] theorem State.hostGoto_cfg (p : HostPos) : (s.hostGoto p).cfg = s.cfg := rfl
@[simp] theorem State.hostGoto_cri (p : HostPos) : (s.hostGoto p).cri = s.cri := rfl
@[simp] theorem State.hostGoto_blk (p : HostPos) : (s.hostGoto p).blk = s.blk := rfl
@[simp] theorem State.hostGoto_side (p : HostPos) : (s.hostGoto p).side = s.side := rfl
@[simp] theorem State.hostGoto_boot (p : HostPos) : (s.hostGoto p).boot = { s.boot with pos := p } := rfl
@[simp] theorem State.hostGoto_edge (p : HostPos) : (s.hostGoto p).edge = s.edge := rfl
@[simp] theorem State.hostGoto_env (p : HostPos) : (s.hostGoto p).env = s.env := rfl
@[simp] theorem State.hostGoto_port (p : HostPos) : (s.hostGoto p).port = s.port := rfl
@[simp] theorem State.hostGoto_draws (p : HostPos) : (s.hostGoto p).draws = s.draws := rfl
@[simp] theorem State.hostGoto_sched (p : HostPos) : (s.hostGoto p).sched = s.sched := rfl

/-! ### answer -/

@[simp] theorem State.answer_cfg (r : Res) : (s.answer r).cfg = s.cfg := rfl
@[simp] theorem State.answer_cri (r : Res) : (s.answer r).cri = s.cri := rfl
@[simp] theorem State.answer_blk (r : Res) : (s.answer r).blk = s.blk := rfl
@[simp] theorem State.answer_side (r : Res) : (s.answer r).side = s.side := rfl
@[simp] theorem State.answer_boot (r : Res) : (s.answer r).boot = s.boot := rfl
@[simp] theorem State.answer_edge (r : Res) : (s.answer r).edge = s.edge := rfl
@[simp] theorem State.answer_env (r : Res) : (s.answer r).env = s.env := rfl
@[simp] theorem State.answer_port (r : Res) : (s.answer r).port = { s.port with res := r } := rfl
@[simp] theorem State.answer_draws (r : Res) : (s.answer r).draws = s.draws := rfl
@[simp] theorem State.answer_sched (r : Res) : (s.answer r).sched = s.sched := rfl

/-! ### returnToIdle -/

@[simp] theorem returnToIdle_cfg : (returnToIdle s).cfg = s.cfg := rfl
@[simp] theorem returnToIdle_cri : (returnToIdle s).cri = s.cri := rfl
@[simp] theorem returnToIdle_blk : (returnToIdle s).blk = { s.blk with pc := ⟨.idle, 0#4⟩ } := rfl
@[simp] theorem returnToIdle_side : (returnToIdle s).side = s.side := rfl
@[simp] theorem returnToIdle_boot : (returnToIdle s).boot = s.boot := rfl
@[simp] theorem returnToIdle_edge : (returnToIdle s).edge = s.edge := rfl
@[simp] theorem returnToIdle_env : (returnToIdle s).env = s.env := rfl
@[simp] theorem returnToIdle_port : (returnToIdle s).port = s.port := rfl
@[simp] theorem returnToIdle_draws : (returnToIdle s).draws = s.draws := rfl
@[simp] theorem returnToIdle_sched : (returnToIdle s).sched = s.sched := rfl

/-! ### enterVector -/

@[simp] theorem enterVector_cfg : (enterVector s).cfg = s.cfg := rfl
@[simp] theorem enterVector_cri : (enterVector s).cri = s.cri := rfl
@[simp] theorem enterVector_blk : (enterVector s).blk = { s.blk with pc := ⟨.entry, 0#4⟩ } := rfl
@[simp] theorem enterVector_side : (enterVector s).side = s.side := rfl
@[simp] theorem enterVector_boot : (enterVector s).boot = s.boot := rfl
@[simp] theorem enterVector_edge : (enterVector s).edge = s.edge := rfl
@[simp] theorem enterVector_env : (enterVector s).env = s.env := rfl
@[simp] theorem enterVector_port : (enterVector s).port = s.port := rfl
@[simp] theorem enterVector_draws : (enterVector s).draws = s.draws := rfl
@[simp] theorem enterVector_sched : (enterVector s).sched = s.sched := rfl

end Sys2Proof.Machine
end

