-- ==== Sys2Proof/Laws/Ops.lean ====
section
/-! SUPPORT. One lemma for each shared operation that says everything it can do, and the laws of the register spaces
(20_memory R60, R68) and of the resets (70_reset R240 to R245). -/

namespace Sys2Proof.Machine

variable {s t : State}

/-! ## Operations in their places -/

/-- An operation in its place has its effect; out of it, it is refused. -/
theorem atSeq_cases (st : SeqState) (k : BitVec 4) (f : State → State) :
    (s.seqAt st k ∧ s.atSeq st k f = .next (f s)) ∨ (¬ s.seqAt st k ∧ s.atSeq st k f = .refused s.misissued) := by
  by_cases h : s.seqAt st k
  · exact .inl ⟨h, if_pos h⟩
  · exact .inr ⟨h, if_neg h⟩

theorem atSeq_eq_next (st : SeqState) (k : BitVec 4) (f : State → State) (hi : s.port.issuer = .seq)
    (hp : s.blk.pc = ⟨st, k⟩) : s.atSeq st k f = .next (f s) := if_pos ⟨hi, hp⟩

/-- If an operation of SEQ answers a next state, SEQ was at its pc and the state is the effect's. -/
theorem atSeq_next {st : SeqState} {k : BitVec 4} {f : State → State} (h : s.atSeq st k f = .next t) :
    s.seqAt st k ∧ t = f s := by
  rcases atSeq_cases (s := s) st k f with ⟨hp, e⟩ | ⟨_, e⟩
  · exact ⟨hp, (Host.Outcome.next.inj (e ▸ h)).symm⟩
  · exact absurd (e ▸ h) (by simp)

theorem atHost_cases (p : HostPos) (f : State → State) :
    (s.hostAt p ∧ s.atHost p f = .next (f s)) ∨ (¬ s.hostAt p ∧ s.atHost p f = .refused s.misissued) := by
  by_cases h : s.hostAt p
  · exact .inl ⟨h, if_pos h⟩
  · exact .inr ⟨h, if_neg h⟩

theorem atHost_eq_next (p : HostPos) (f : State → State) (hi : s.port.issuer = .host) (hp : s.boot.pos = p) :
    s.atHost p f = .next (f s) := if_pos ⟨hi, hp⟩

/-- If an operation of HOST answers a next state, HOST was at its step and the state is the effect's. -/
theorem atHost_next {p : HostPos} {f : State → State} (h : s.atHost p f = .next t) : s.hostAt p ∧ t = f s := by
  rcases atHost_cases (s := s) p f with ⟨hp, e⟩ | ⟨_, e⟩
  · exact ⟨hp, (Host.Outcome.next.inj (e ▸ h)).symm⟩
  · exact absurd (e ▸ h) (by simp)

theorem whenUnlocked_eq (act : Host.Outcome State Fault Refusal) (h : s.cri.bkpwe = true) : s.whenUnlocked act = act :=
  if_pos h

theorem whenUnlocked_locked (act : Host.Outcome State Fault Refusal) (h : s.cri.bkpwe = false) :
    s.whenUnlocked act = .refused .backupLocked := if_neg (by simp [h])

/-- If a backup-domain write answers a next state, the domain was unlocked (R68). -/
theorem whenUnlocked_next {act : Host.Outcome State Fault Refusal} (h : s.whenUnlocked act = .next t) :
    s.cri.bkpwe = true ∧ act = .next t := by
  unfold State.whenUnlocked at h
  split at h <;> simp_all

theorem misissued_host (h : s.port.issuer = .host) : s.misissued = .hostProtocol := by simp [State.misissued, h]

/-! ## Issuing -/

/-- A word that decodes runs its operation with the word, its ARG and its issuer on the ports. -/
theorem issueWord_ok {agent : Agent} {word : Byte} {arg : Arg} {i : Instr} (h : decode word arg = .ok i) :
    issueWord agent word arg s = exec i (s.withPort { s.port with op := word, arg := arg, issuer := agent }) := by
  simp [issueWord, h]

theorem issueWord_reserved {agent : Agent} {word : Byte} {arg : Arg} {code : Byte}
    (h : decode word arg = .error (.reservedCode code)) :
    issueWord agent word arg s = .refused (.reservedCode code) := by simp [issueWord, h]

/-! ## Register spaces -/

/-- A register of `w` bits holds the value modulo 2^w. -/
theorem truncTo_toNat {w : Nat} (hw : w ≤ 32) (v : Word) : (truncTo w v).toNat = v.toNat % 2 ^ w := by
  have h1 : v.toNat % 2 ^ w < 2 ^ w := Nat.mod_lt _ (Nat.two_pow_pos w)
  have h2 : 2 ^ w ≤ 2 ^ 32 := Nat.pow_le_pow_right (by decide) hw
  simp only [truncTo, BitVec.toNat_ofNat]
  exact Nat.mod_eq_of_lt (Nat.lt_of_lt_of_le h1 h2)

theorem truncTo_lt {w : Nat} (hw : w ≤ 32) (v : Word) : (truncTo w v).toNat < 2 ^ w := by
  rw [truncTo_toNat hw]
  exact Nat.mod_lt _ (Nat.two_pow_pos w)

/-- A value that fits is held whole. -/
theorem truncTo_of_lt {w : Nat} {v : Word} (h : v.toNat < 2 ^ w) : truncTo w v = v := by
  apply BitVec.eq_of_toNat_eq
  simp only [truncTo, BitVec.toNat_ofNat, Nat.mod_eq_of_lt h]
  exact Nat.mod_eq_of_lt v.isLt

/-- WDTAB in closed form (R36, R123): entry i is (i + 4) mod 7. -/
theorem wdtab_eq {i : Nat} (h : i < 7) : wdtab i = some (BitVec.ofNat 3 ((i + 4) % 7)) := by
  match i, h with
  | 0, _ | 1, _ | 2, _ | 3, _ | 4, _ | 5, _ | 6, _ => rfl

theorem wdtab_none {i : Nat} (h : 7 ≤ i) : wdtab i = none := by
  unfold wdtab
  split <;> first | rfl | omega

/-- A pin's level after a write is the level written; the other pins keep theirs. -/
theorem levelOf_setLevel (h : HostSide) (pin other : Pin) (level : Bool) :
    levelOf (setLevel h pin level) other = if other = pin then level else levelOf h other := by
  cases pin <;> cases other <;> rfl

/-- A counter read changes nothing but the count of draws (R67). -/
theorem counterRead_eq (s : State) : counterRead s = s.drawn (if s.cri.rsf then 0 else 1) := by
  unfold counterRead
  split <;> simp_all [State.drawn]

/-- With the registers synchronised a read returns the half of CNT (R100, R101). -/
theorem counterHigh_synced (h : s.cri.rsf = true) : counterHigh s = cnth s := if_pos h
theorem counterLow_synced (h : s.cri.rsf = true) : counterLow s = cntl s := if_pos h

/-- The two halves of CNT, put together, are CNT (R62). -/
theorem joinHalves_halves (s : State) : joinHalves (cnth s) (cntl s) = s.cri.cnt := by
  apply BitVec.eq_of_toNat_eq
  have := s.cri.cnt.isLt
  simp only [joinHalves, cnth, cntl, BitVec.toNat_append, BitVec.extractLsb'_toNat, Nat.shiftRight_eq_div_pow]
  rw [← Nat.shiftLeft_add_eq_or_of_lt (by omega), Nat.shiftLeft_eq]
  omega

/-! ## Resets -/

/-- What the loss of the backup domain writes in the Counter Register Interface; RSF and BKPWE stay (R243, R245). -/
theorem loseBackup_cri (s : State) :
    (loseBackup s).cri = { s.cri with
      sent := s.cfg.bkpReset, cnt := s.draw 0, alarm := s.draw 1, presc := truncTo s.cfg.prescW (s.draw 2)
      osc := .none, tickie := false, alrie := false, tickf := false, alrf := false } := rfl

theorem loseBackup_env (s : State) : (loseBackup s).env = { s.env with oscReady := false } := rfl
@[simp] theorem loseBackup_cfg (s : State) : (loseBackup s).cfg = s.cfg := rfl
@[simp] theorem loseBackup_blk (s : State) : (loseBackup s).blk = s.blk := rfl
@[simp] theorem loseBackup_side (s : State) : (loseBackup s).side = s.side := rfl
@[simp] theorem loseBackup_boot (s : State) : (loseBackup s).boot = s.boot := rfl
@[simp] theorem loseBackup_edge (s : State) : (loseBackup s).edge = s.edge := rfl
@[simp] theorem loseBackup_port (s : State) : (loseBackup s).port = s.port := rfl
@[simp] theorem loseBackup_sched (s : State) : (loseBackup s).sched = s.sched := rfl
@[simp] theorem loseBackup_draws (s : State) : (loseBackup s).draws = s.draws + 3 := rfl

/-- A system reset does not touch the backup domain (R242): of the Counter Register Interface it writes BKPWE and RSF. -/
theorem systemReset_cri (por pin : Bool) (s : State) :
    (systemReset por pin s).cri = { s.cri with bkpwe := false, rsf := s.drawBit 26 } := rfl

@[simp] theorem systemReset_cfg (por pin : Bool) (s : State) : (systemReset por pin s).cfg = s.cfg := rfl
@[simp] theorem systemReset_blk (por pin : Bool) (s : State) : (systemReset por pin s).blk = resetBlock s := rfl
@[simp] theorem systemReset_side (por pin : Bool) (s : State) : (systemReset por pin s).side = resetSide s := rfl
@[simp] theorem systemReset_boot (por pin : Bool) (s : State) :
    (systemReset por pin s).boot = { s.boot with pos := .step 0 } := rfl
@[simp] theorem systemReset_edge (por pin : Bool) (s : State) :
    (systemReset por pin s).edge = { pos := .rest, runs := 0 } := rfl
@[simp] theorem systemReset_env (por pin : Bool) (s : State) :
    (systemReset por pin s).env = { s.env with por := por, pinrst := pin } := rfl
@[simp] theorem systemReset_port (por pin : Bool) (s : State) : (systemReset por pin s).port = s.port := rfl
@[simp] theorem systemReset_sched (por pin : Bool) (s : State) : (systemReset por pin s).sched = s.sched := rfl
@[simp] theorem systemReset_draws (por pin : Bool) (s : State) : (systemReset por pin s).draws = s.draws + 27 := rfl

/-! ## Parameters -/

/-- The parameters State.reset carries meet the constraints of R8. -/
theorem params_wf : Config.params.wf = true := by
  have hp : Config.prescW ≤ 32 := Nat.min_le_right _ _
  have hk : ∀ r : Word, (BitVec.ofNat 32 (r.toNat % 2 ^ Config.prescW)).toNat < 2 ^ Config.prescW :=
    fun r => truncTo_lt hp r
  have hs : Config.sentinel ≠ Config.bkpReset := by
    unfold Config.bkpReset
    split
    · intro h
      have := congrArg (fun v : Half => v.getLsbD 0) h
      simp at this
    · exact fun h => absurd h.symm (by assumption)
  simp only [Params.wf, Config.params, Bool.and_eq_true, bne_iff_ne, ne_eq]
  have hw : 500 ≤ Config.oscWaitIters ∧ Config.oscWaitIters < 1500 := by
    unfold Config.oscWaitIters
    omega
  exact ⟨⟨⟨⟨⟨hs, decide_eq_true hp⟩, decide_eq_true (hk _)⟩, decide_eq_true (hk _)⟩, decide_eq_true hw.1⟩,
    decide_eq_true hw.2⟩

end Sys2Proof.Machine
end

