-- ==== Sys2Proof/Laws/PerInstr.lean ====
section
/-! SUPPORT. Statements made operation by operation: one family, one lemma per constructor of Instr. -/

namespace Sys2Proof.Laws

/-- The operation codes that 30_encoding R83 to R85 list, group by group (R82). -/
def listedCode (code : Nat) : Bool :=
  (decide (0x01 ≤ code) && decide (code ≤ 0x12)) || (decide (0x20 ≤ code) && decide (code ≤ 0x23)) ||
    code == 0x30 || code == 0x31 || code == 0x40 || (decide (0x80 ≤ code) && decide (code ≤ 0x88))

/-- The code of the operation is one of the 34 listed ones (R83 to R85, R90). -/
def OpWordDefined.Statement (i : Instr) : Prop := listedCode (encodeWord i).toNat = true

theorem OpWordDefined.rdh : OpWordDefined.Statement .rdh := rfl
theorem OpWordDefined.rdl : OpWordDefined.Statement .rdl := rfl
theorem OpWordDefined.cfgpre (divisor : Word) : OpWordDefined.Statement (.cfgpre divisor) := rfl
theorem OpWordDefined.setcnt (value : Word) : OpWordDefined.Statement (.setcnt value) := rfl
theorem OpWordDefined.setalr (value : Word) : OpWordDefined.Statement (.setalr value) := rfl
theorem OpWordDefined.enirq : OpWordDefined.Statement .enirq := rfl
theorem OpWordDefined.clrtick : OpWordDefined.Statement .clrtick := rfl
theorem OpWordDefined.clralr : OpWordDefined.Statement .clralr := rfl
theorem OpWordDefined.rdsent : OpWordDefined.Statement .rdsent := rfl
theorem OpWordDefined.wrsent (value : Half) : OpWordDefined.Statement (.wrsent value) := rfl
theorem OpWordDefined.rstbkp : OpWordDefined.Statement .rstbkp := rfl
theorem OpWordDefined.selosc (source : OscSource) : OpWordDefined.Statement (.selosc source) := rfl
theorem OpWordDefined.waitsync : OpWordDefined.Statement .waitsync := rfl
theorem OpWordDefined.unlockbkp : OpWordDefined.Statement .unlockbkp := rfl
theorem OpWordDefined.rstcause : OpWordDefined.Statement .rstcause := rfl
theorem OpWordDefined.oscrdy : OpWordDefined.Statement .oscrdy := rfl
theorem OpWordDefined.reghandler : OpWordDefined.Statement .reghandler := rfl
theorem OpWordDefined.rdflags : OpWordDefined.Statement .rdflags := rfl
theorem OpWordDefined.dsprdy : OpWordDefined.Statement .dsprdy := rfl
theorem OpWordDefined.clrbuf : OpWordDefined.Statement .clrbuf := rfl
theorem OpWordDefined.drawtext (pos : Pos) (text : Text) : OpWordDefined.Statement (.drawtext pos text) := rfl
theorem OpWordDefined.commit : OpWordDefined.Statement .commit := rfl
theorem OpWordDefined.setlvl (pin : Pin) (level : Bool) : OpWordDefined.Statement (.setlvl pin level) := rfl
theorem OpWordDefined.rdlvl (pin : Pin) : OpWordDefined.Statement (.rdlvl pin) := rfl
theorem OpWordDefined.log (notice : Notice) : OpWordDefined.Statement (.log notice) := rfl
theorem OpWordDefined.asm32 : OpWordDefined.Statement .asm32 := rfl
theorem OpWordDefined.tzsub : OpWordDefined.Statement .tzsub := rfl
theorem OpWordDefined.hms : OpWordDefined.Statement .hms := rfl
theorem OpWordDefined.wday : OpWordDefined.Statement .wday := rfl
theorem OpWordDefined.yearinit : OpWordDefined.Statement .yearinit := rfl
theorem OpWordDefined.yearstep : OpWordDefined.Statement .yearstep := rfl
theorem OpWordDefined.doyset : OpWordDefined.Statement .doyset := rfl
theorem OpWordDefined.febfix : OpWordDefined.Statement .febfix := rfl
theorem OpWordDefined.monscan : OpWordDefined.Statement .monscan := rfl

end Sys2Proof.Laws
end

