-- ==== Sys2Proof/Laws/Tables.lean ====
section
/-! SUPPORT. The laws of the one writable table MDAYS (10_state R33, R34): its constant entries are kept by everything that
writes it, a read after a write gives what was written, and the scan of MONSCAN stops where the table ends. -/

namespace Sys2Proof.Machine

/-! ## The constant entries -/

@[simp] theorem MonthTable.withFebruary_wf (february : Byte) : (MonthTable.withFebruary february).wf = true := by
  simp [MonthTable.wf, MonthTable.withFebruary]

theorem MonthTable.eq_withFebruary {t : MonthTable} (h : t.wf = true) : t = MonthTable.withFebruary t.m2 := by
  simpa [MonthTable.wf] using h

/-- FEBFIX's write of entry 2 (R127) keeps the eleven other entries. -/
theorem MonthTable.wf_write_february {t : MonthTable} (february : Byte) (h : t.wf = true) :
    ({ t with m2 := february } : MonthTable).wf = true := by
  rw [MonthTable.eq_withFebruary h]
  simp [MonthTable.wf, MonthTable.withFebruary]

/-- A read of entry 2 after its write, and of the scan's entries after month 2. -/
theorem MonthTable.write_february_read (t : MonthTable) (february : Byte) :
    ({ t with m2 := february } : MonthTable).m2 = february ∧
      (monthsAfterFirst { t with m2 := february }).tail = (monthsAfterFirst t).tail := ⟨rfl, rfl⟩

/-- A system reset leaves the constant entries (R34, R241). -/
theorem resetBlock_mdays_wf (s : State) : (resetBlock s).mdays.wf = true := MonthTable.withFebruary_wf _

theorem reset_mdays_wf : State.reset.blk.mdays.wf = true := MonthTable.withFebruary_wf _

/-! ## The scan -/

/-- The scan finds no month exactly where the day lies beyond the sum of the entries, which must fit in CUM. -/
theorem monthScan_eq_none (doy : BitVec 16) (m : BitVec 4) (cum prev : BitVec 16) (after : List Byte)
    (hs : cum.toNat + (after.map (·.toNat)).sum < 65536) :
    monthScan doy m cum prev after = none ↔ cum.toNat + (after.map (·.toNat)).sum < doy.toNat := by
  induction after generalizing m cum prev with
  | nil =>
    unfold monthScan
    simp [BitVec.le_def]
  | cons len rest ih =>
    unfold monthScan
    simp only [List.map_cons, List.sum_cons] at *
    have hlen := len.isLt
    have e : (cum + len.setWidth 16).toNat = cum.toNat + len.toNat := by simp [BitVec.toNat_add]; omega
    by_cases h : doy ≤ cum
    · rw [if_pos h]; simp [BitVec.le_def] at *; omega
    · rw [if_neg h, ih, e]
      · omega
      · rw [e]; omega

/-- The months after the first, of a table with its constant entries: 306 days and February. -/
theorem sum_monthsAfterFirst {t : MonthTable} (h : t.wf = true) :
    ((monthsAfterFirst t).map (·.toNat)).sum = 306 + t.m2.toNat := by
  rw [MonthTable.eq_withFebruary h]
  simp [monthsAfterFirst, MonthTable.withFebruary]
  omega

end Sys2Proof.Machine
end

