-- ==== Sys2Proof/Tests/Slice0.lean ====
section
/-! SUPPORT. Tests: the well-formedness smoke, the decoding of every operation's word, one-step tests with the expected
values of 95_test_vectors, and for each obligation with hypotheses a concrete state and operands that meet them. -/

namespace Sys2Proof.Tests

open Sys2Proof.Machine

/-! ## Well-formedness -/

/-- A build: SENTINEL 0xA5A5, absent value 0, SEED of the source's example, PRESC_W = 20. -/
def cfg : Params :=
  { sentinel := 0xA5A5#16, bkpReset := 0#16, seed := 1609459200#32, oscSource := .external
    prescInternal := 39999#32, prescExternal := 32767#32, prescW := 20, oscWaitIters := 1000
    relayOff := false, clearPoint := .exit, edgePreempts := true }

theorem test_params_wf : cfg.wf = true := by decide

/-- R8, R243: a build whose sentinel is the reset value is refused, one whose divisor does not fit, and one whose ready-wait is
not about 1000 polls (log 37). -/
theorem test_params_ill_formed :
    { cfg with bkpReset := 0xA5A5#16 }.wf = false ∧ { cfg with prescW := 33 }.wf = false ∧
      { cfg with prescInternal := 0x100000#32 }.wf = false ∧ { cfg with prescExternal := 0x100000#32 }.wf = false ∧
      { cfg with oscWaitIters := 499 }.wf = false ∧ { cfg with oscWaitIters := 1500 }.wf = false := by
  decide

/-- R65, R81: the divisor is a PRESC_W-bit value. -/
theorem test_wf_cfgpre :
    (Instr.cfgpre 0x000FFFFF#32).wf cfg = true ∧ (Instr.cfgpre 0x00100000#32).wf cfg = false := by decide

/-! ## Decoding: every code, bit by bit, from R83, R84, R85 and R86 -/

def bitsArg (v : Word) : Arg := { Arg.zero with bits := v }

theorem test_decode_cri_reads :
    decode 0b00000001#8 Arg.zero = .ok .rdh ∧ decode 0b00000010#8 Arg.zero = .ok .rdl ∧
      decode 0b00001001#8 Arg.zero = .ok .rdsent ∧ decode 0b00001111#8 Arg.zero = .ok .rstcause ∧
      decode 0b00010000#8 Arg.zero = .ok .oscrdy ∧ decode 0b00010010#8 Arg.zero = .ok .rdflags := ⟨rfl, rfl, rfl, rfl, rfl, rfl⟩

theorem test_decode_cri_values :
    decode 0b00000011#8 (bitsArg 32767#32) = .ok (.cfgpre 32767#32) ∧
      decode 0b00000100#8 (bitsArg 0x5FEE6600#32) = .ok (.setcnt 0x5FEE6600#32) ∧
      decode 0b00000101#8 (bitsArg 0x5FEE660F#32) = .ok (.setalr 0x5FEE660F#32) ∧
      decode 0b00001010#8 (bitsArg 0x0000A5A5#32) = .ok (.wrsent 0xA5A5#16) ∧
      decode 0b00001100#8 (bitsArg 0#32) = .ok (.selosc .internal) ∧
      decode 0b00001100#8 (bitsArg 1#32) = .ok (.selosc .external) := ⟨rfl, rfl, rfl, rfl, rfl, rfl⟩

theorem test_decode_cri_plain :
    decode 0b00000110#8 Arg.zero = .ok .enirq ∧ decode 0b00000111#8 Arg.zero = .ok .clrtick ∧
      decode 0b00001000#8 Arg.zero = .ok .clralr ∧ decode 0b00001011#8 Arg.zero = .ok .rstbkp ∧
      decode 0b00001101#8 Arg.zero = .ok .waitsync ∧ decode 0b00001110#8 Arg.zero = .ok .unlockbkp ∧
      decode 0b00010001#8 Arg.zero = .ok .reghandler := ⟨rfl, rfl, rfl, rfl, rfl, rfl, rfl⟩

theorem test_decode_sinks :
    decode 0b00100000#8 Arg.zero = .ok .dsprdy ∧ decode 0b00100001#8 Arg.zero = .ok .clrbuf ∧
      decode 0b00100010#8 { Arg.zero with pos := ⟨3, 4⟩, text := ['A'] } = .ok (.drawtext ⟨3, 4⟩ ['A']) ∧
      decode 0b00100011#8 Arg.zero = .ok .commit ∧
      decode 0b00110000#8 { Arg.zero with pin := .diag, level := true } = .ok (.setlvl .diag true) ∧
      decode 0b00110001#8 { Arg.zero with pin := .edge } = .ok (.rdlvl .edge) ∧
      decode 0b01000000#8 { Arg.zero with notice := .displayInit .failed } = .ok (.log (.displayInit .failed)) :=
  ⟨rfl, rfl, rfl, rfl, rfl, rfl, rfl⟩

theorem test_decode_compute :
    decode 0b10000000#8 Arg.zero = .ok .asm32 ∧ decode 0b10000001#8 Arg.zero = .ok .tzsub ∧
      decode 0b10000010#8 Arg.zero = .ok .hms ∧ decode 0b10000011#8 Arg.zero = .ok .wday ∧
      decode 0b10000100#8 Arg.zero = .ok .yearinit ∧ decode 0b10000101#8 Arg.zero = .ok .yearstep ∧
      decode 0b10000110#8 Arg.zero = .ok .doyset ∧ decode 0b10000111#8 Arg.zero = .ok .febfix ∧
      decode 0b10001000#8 Arg.zero = .ok .monscan := ⟨rfl, rfl, rfl, rfl, rfl, rfl, rfl, rfl, rfl⟩

/-- R90: the codes beside the listed ones. -/
theorem test_decode_reserved :
    decode 0b00000000#8 Arg.zero = .error (.reservedCode 0x00#8) ∧
      decode 0b00010011#8 Arg.zero = .error (.reservedCode 0x13#8) ∧
      decode 0b00100100#8 Arg.zero = .error (.reservedCode 0x24#8) ∧
      decode 0b10001001#8 Arg.zero = .error (.reservedCode 0x89#8) := ⟨rfl, rfl, rfl, rfl⟩

/-- R95: 34 codes are defined. -/
theorem test_decode_count : ((List.range 256).filter fun w => (decodeTableWord 8 w).isSome).length = 34 := by
  decide +kernel

/-- No word longer or shorter than 8 bits (R80). -/
theorem test_decode_width : decodeTableWord 16 1 = none ∧ decodeTableWord 8 257 = none := ⟨rfl, rfl⟩

/-! ## States for the tests -/

/-- A quiet machine: counter 0x5FEE6600, deadline 15 seconds on, registers synchronised, external oscillator, INIT
complete. -/
def quiet : State :=
  { cfg := cfg
    cri :=
      { cnt := 0x5FEE6600#32, alarm := 0x5FEE660F#32, presc := 32767#32, osc := .external
        tickie := true, alrie := true, tickf := false, alrf := false, rsf := true, sent := 0xA5A5#16, bkpwe := true }
    blk :=
      { pc := ⟨.idle, 0#4⟩, h1 := 0#16, l1 := 0#16, h2 := 0#16, l2 := 0#16, raw := 0#32, e := 0#32, days := 0#32, d := 0#32
        leap := false, leapDays := 0#8, m := 0#4, cum := 0#16, prev := 0#16, cm := Moment.zero
        mdays := MonthTable.withFebruary 28#8, ready := false }
    side :=
      { displayReady := true, sinkInit := some .ok, dbuf := [], panel := [], relay := true, diag := false, edgePin := false, logs := [], hreg := true }
    boot := { pos := .done, por := false, pin := false, sent := 0#16, polls := 0 }
    edge := { pos := .rest, runs := 0 }
    env := { por := false, pinrst := true, oscReady := true }
    port := { op := 0#8, arg := Arg.zero, res := .none, issuer := .seq }
    draws := 0
    sched := [] }

/-- The quiet machine with SEQ at `(st, k)` of the block `b`, about to issue. -/
def seqAt (st : SeqState) (k : BitVec 4) (b : Block) : State := { quiet with blk := { b with pc := ⟨st, k⟩ } }

/-- The quiet machine with HOST at position `p`, about to issue. -/
def hostAt (p : HostPos) : State :=
  { quiet with boot := { quiet.boot with pos := p }, port := { quiet.port with issuer := .host } }

/-- The quiet machine with EDGE at `p`, one event waiting, about to issue. -/
def edgeAt (p : EdgePos) : State :=
  { quiet with edge := { pos := p, runs := 1 }, port := { quiet.port with issuer := .edge } }

/-- The outcome is a next state that satisfies `p`. -/
def after (o : Host.Outcome State Fault Refusal) (p : State → Bool) : Bool :=
  match o with
  | .next t => p t
  | .fault _ => false
  | .refused _ => false

/-- The outcome is the refusal `r`. -/
def refusedAs (o : Host.Outcome State Fault Refusal) (r : Refusal) : Bool :=
  match o with
  | .next _ => false
  | .fault _ => false
  | .refused q => decide (q = r)

def blk0 : Block := quiet.blk

/-! ## Counter read (95_test_vectors V-RD-OPS) -/

theorem test_rdh : after (exec .rdh (seqAt .reading 0#4 blk0))
    (fun t => t.blk.h1 == 0x5FEE#16 && decide (t.blk.pc = ⟨.reading, 1#4⟩)) = true := by decide
theorem test_rdh_differs : after (exec .rdh (seqAt .reading 2#4 { blk0 with h1 := 0x5FED#16 }))
    (fun t => t.blk.h2 == 0x5FEE#16 && t.blk.h1 == 0x5FED#16 && decide (t.blk.pc = ⟨.reading, 3#4⟩)) = true := by decide
theorem test_rdl : after (exec .rdl (seqAt .reading 1#4 blk0))
    (fun t => t.blk.l1 == 0x6600#16 && decide (t.port.res = .q16 0x6600#16)) = true := by decide
theorem test_asm32_agree :
    after (exec .asm32 (seqAt .reading 4#4 { blk0 with h1 := 0x1234#16, l1 := 0xABCD#16, h2 := 0x1234#16 }))
    (fun t => t.blk.raw == 0x1234ABCD#32) = true := by decide
theorem test_asm32_differ :
    after (exec .asm32 (seqAt .reading 4#4 { blk0 with h1 := 0x1234#16, l1 := 0xABCD#16, h2 := 0x1236#16, l2 := 7#16 }))
    (fun t => t.blk.raw == 0x12360007#32) = true := by decide

/-! ## Decoder (95_test_vectors V-DEC-OPS) -/

theorem test_tzsub : after (exec .tzsub (seqAt .decoding 0#4 { blk0 with raw := 18000#32 }))
    (fun t => t.blk.e == 0#32) = true := by decide
theorem test_tzsub_wraps : after (exec .tzsub (seqAt .decoding 0#4 { blk0 with raw := 17999#32 }))
    (fun t => t.blk.e == 4294967295#32) = true := by decide
theorem test_hms_last : after (exec .hms (seqAt .decoding 1#4 { blk0 with e := 4294967295#32 }))
    (fun t => t.blk.cm.second == 15#6 && t.blk.cm.minute == 28#6 && t.blk.cm.hour == 6#5 && t.blk.days == 49710#32) = true := by
  decide
theorem test_hms_day : after (exec .hms (seqAt .decoding 1#4 { blk0 with e := 86399#32 }))
    (fun t => t.blk.cm.second == 59#6 && t.blk.cm.minute == 59#6 && t.blk.cm.hour == 23#5 && t.blk.days == 0#32) = true := by
  decide
theorem test_wday : after (exec .wday (seqAt .decoding 2#4 { blk0 with days := 18627#32 }))
    (fun t => t.blk.cm.weekday == 4#3) = true := by decide
theorem test_wday_last : after (exec .wday (seqAt .decoding 2#4 { blk0 with days := 49710#32 }))
    (fun t => t.blk.cm.weekday == 0#3) = true := by decide
theorem test_yearinit : after (exec .yearinit (seqAt .decoding 3#4 { blk0 with days := 790#32, leap := true, leapDays := 9#8 }))
    (fun t => t.blk.cm.year == 1970#16 && !t.blk.leap && t.blk.d == 790#32 && t.blk.leapDays == 0#8) = true := by decide
theorem test_yearstep_enters_leap :
    after (exec .yearstep (seqAt .decoding 4#4 { blk0 with d := 425#32, cm := { Moment.zero with year := 1971#16 } }))
    (fun t => t.blk.cm.year == 1972#16 && t.blk.leap && t.blk.d == 60#32 && t.blk.leapDays == 0#8 &&
      decide (t.blk.pc = ⟨.decoding, 4#4⟩)) = true := by decide
theorem test_yearstep_leaves_leap :
    after (exec .yearstep
      (seqAt .decoding 4#4 { blk0 with d := 366#32, leap := true, cm := { Moment.zero with year := 1972#16 } }))
    (fun t => t.blk.cm.year == 1973#16 && !t.blk.leap && t.blk.d == 0#32 && t.blk.leapDays == 1#8) = true := by decide
theorem test_doyset : after (exec .doyset (seqAt .decoding 5#4 { blk0 with d := 365#32 }))
    (fun t => t.blk.cm.doy == 366#9) = true := by decide
theorem test_febfix_leap : after (exec .febfix (seqAt .decoding 6#4 { blk0 with leap := true }))
    (fun t => t.blk.mdays.m2 == 29#8 && t.blk.mdays.wf) = true := by decide
theorem test_febfix_common :
    after (exec .febfix (seqAt .decoding 6#4 { blk0 with mdays := MonthTable.withFebruary 77#8 }))
    (fun t => t.blk.mdays.m2 == 28#8) = true := by decide
theorem test_monscan_last :
    after (exec .monscan (seqAt .decoding 7#4
      { blk0 with mdays := MonthTable.withFebruary 29#8, cm := { Moment.zero with doy := 366#9 } }))
    (fun t => t.blk.m == 12#4 && t.blk.prev == 335#16 && t.blk.cum == 366#16 && t.blk.cm.month == 12#4 &&
      t.blk.cm.date == 31#5) = true := by decide
theorem test_monscan_march :
    after (exec .monscan (seqAt .decoding 7#4 { blk0 with cm := { Moment.zero with doy := 60#9 } }))
    (fun t => t.blk.m == 3#4 && t.blk.prev == 59#16 && t.blk.cum == 90#16 && t.blk.cm.month == 3#4 &&
      t.blk.cm.date == 1#5) = true := by decide

/-- The one function of R136 at three rows of V-DEC: input 0, the source's first example, and the end of 1972. -/
theorem test_calendar_wrapped : calendar 0#32 =
    { year := 2106#16, month := 2#4, date := 7#5, hour := 1#5, minute := 28#6, second := 16#6, weekday := 0#3, doy := 38#9 } := by
  decide +kernel
theorem test_calendar_example : calendar 1609459200#32 =
    { year := 2020#16, month := 12#4, date := 31#5, hour := 19#5, minute := 0#6, second := 0#6, weekday := 4#3
      doy := 366#9 } := by
  decide +kernel
theorem test_calendar_2100 : calendar 4107560400#32 =
    { year := 2100#16, month := 3#4, date := 1#5, hour := 0#5, minute := 0#6, second := 0#6, weekday := 1#3, doy := 60#9 } := by
  decide +kernel

/-! ## Dispatch (42_dispatch, examples of R150 to R169) -/

/-- The flags `t` and `a` set as given. -/
def flags (t a : Bool) (s : State) : State := { s with cri := { s.cri with tickf := t, alrf := a } }

theorem test_rdflags_both : after (exec .rdflags (flags true true (seqAt .entry 0#4 blk0)))
    (fun t => decide (t.blk.pc = ⟨.entry, 1#4⟩) && t.cri.alrf && decide (t.port.res = .q2 3#2)) = true := by decide
theorem test_rdflags_alarm : after (exec .rdflags (flags false true (seqAt .entry 0#4 blk0)))
    (fun t => decide (t.blk.pc = ⟨.alarmHandling, 0#4⟩) && decide (t.port.res = .q2 1#2)) = true := by decide
theorem test_dsprdy_not_ready :
    after (exec .dsprdy { seqAt .entry 1#4 blk0 with side := { quiet.side with displayReady := false } })
    (fun t => decide (t.blk.pc = ⟨.entry, 2#4⟩) && !t.blk.ready) = true := by decide
theorem test_dsprdy_ready : after (exec .dsprdy (seqAt .entry 1#4 blk0))
    (fun t => decide (t.blk.pc = ⟨.reading, 0#4⟩) && decide (t.port.res = .q1 1#1)) = true := by decide
theorem test_clrtick_skip : after (exec .clrtick (flags true true (seqAt .entry 2#4 blk0)))
    (fun t => !t.cri.tickf && t.cri.alrf && decide (t.blk.pc = ⟨.idle, 0#4⟩)) = true := by decide
theorem test_clrtick_entry : after (exec .clrtick (flags true false (seqAt .entry 2#4 { blk0 with ready := true })))
    (fun t => !t.cri.tickf && decide (t.blk.pc = ⟨.reading, 0#4⟩)) = true := by decide
theorem test_clralr : after (exec .clralr (flags true true (seqAt .alarmHandling 2#4 blk0)))
    (fun t => !t.cri.alrf && t.cri.tickf && decide (t.blk.pc = ⟨.idle, 0#4⟩)) = true := by decide

def someDraws : List Draw := [⟨⟨0, 0⟩, ['A']⟩, ⟨⟨0, 1⟩, ['B']⟩, ⟨⟨0, 2⟩, ['C']⟩]

theorem test_clrbuf :
    after (exec .clrbuf { seqAt .rendering 0#4 blk0 with side := { quiet.side with dbuf := someDraws, panel := someDraws } })
    (fun t => decide (t.side.dbuf = []) && decide (t.side.panel = someDraws)) = true := by decide
theorem test_drawtext : after (exec (.drawtext ⟨0, 2⟩ ['C'])
      { seqAt .rendering 3#4 blk0 with side := { quiet.side with dbuf := someDraws.take 2 } })
    (fun t => decide (t.side.dbuf = someDraws) && decide (t.blk.pc = ⟨.rendering, 4#4⟩)) = true := by decide
theorem test_commit : after (exec .commit { seqAt .rendering 4#4 blk0 with side := { quiet.side with dbuf := someDraws } })
    (fun t => decide (t.side.panel = someDraws) && decide (t.side.dbuf = someDraws) &&
      decide (t.blk.pc = ⟨.rendering, 5#4⟩)) = true := by decide
theorem test_setlvl_relay : after (exec (.setlvl .relay false) (seqAt .alarmHandling 0#4 blk0))
    (fun t => !t.side.relay && decide (t.blk.pc = ⟨.alarmHandling, 1#4⟩)) = true := by decide
theorem test_setlvl_edge : after (exec (.setlvl .diag true) (edgeAt (.toggle false)))
    (fun t => t.side.diag && t.side.relay && decide (t.edge.pos = .rest)) = true := by decide
theorem test_rdlvl : after (exec (.rdlvl .relay) (edgeAt .rest))
    (fun t => decide (t.port.res = .q1 1#1) && decide (t.edge = ⟨.toggle true, 0⟩)) = true := by decide
theorem test_log_alarm : after (exec (.log .alarmFired) (seqAt .alarmHandling 1#4 blk0))
    (fun t => decide (t.side.logs = [.alarmFired]) && decide (t.blk.pc = ⟨.alarmHandling, 2#4⟩)) = true := by decide
theorem test_log_timeout : after (exec (.log .oscTimeout) (hostAt .oscTimeout))
    (fun t => decide (t.side.logs = [.oscTimeout]) && decide (t.boot.pos = .step 6)) = true := by decide

/-- R48, R210, R212: a failed initialisation of the display leaves its notice, and no later step brings the display up. -/
theorem test_display_fails :
    after (takeMove .displayFailed { quiet with side := { quiet.side with displayReady := false, sinkInit := none } })
      (fun t => decide (t.side.logs = [.displayInit .failed]) && !(displayUp t).side.displayReady) = true ∧
    refusedAs (exec (.log (.displayInit .failed)) (hostAt .done)) .hostProtocol = true := by decide

/-- The texts of R159, of the example of R158: clock "19:00:00", and the numbers of the top line. -/
theorem test_clock_text : clockLine (calendar 1609459200#32) = ['1', '9', ':', '0', '0', ':', '0', '0'] := by decide +kernel
theorem test_decimal_text : decimal 2020 = ['2', '0', '2', '0'] ∧ decimal 7 = ['7'] ∧ twoDigits 7 = ['0', '7'] := by
  decide +kernel

/-! ## Initialisation (43_init, examples of R180 to R195) -/

theorem test_unlockbkp : after (exec .unlockbkp { hostAt (.step 0) with cri := { quiet.cri with bkpwe := false } })
    (fun t => t.cri.bkpwe && decide (t.boot.pos = .step 1)) = true := by decide
theorem test_rstcause : after (exec .rstcause (hostAt (.step 1)))
    (fun t => decide (t.port.res = .q2 1#2) && !t.boot.por && t.boot.pin) = true := by decide
theorem test_rdsent_warm : after (exec .rdsent (hostAt (.step 2)))
    (fun t => decide (t.port.res = .q16 0xA5A5#16) && decide (t.boot.pos = .step 12)) = true := by decide
/-- The bold row of R195: a power-on reset with no sentinel and no pin reset is no cold start. -/
theorem test_rdsent_bold_row :
    after (exec .rdsent { hostAt (.step 2) with
      cri := { quiet.cri with sent := 0#16 }, boot := { quiet.boot with pos := .step 2, por := true } })
    (fun t => decide (t.boot.pos = .step 12)) = true := by decide
theorem test_rstbkp : after (exec .rstbkp (flags true true (hostAt (.step 3))))
    (fun t => t.cri.sent == 0#16 && decide (t.cri.osc = .none) && !t.cri.tickie && !t.cri.alrie && !t.cri.tickf &&
      !t.cri.alrf && !t.env.oscReady && t.cri.bkpwe) = true := by decide
theorem test_rstbkp_locked :
    refusedAs (exec .rstbkp { hostAt (.step 3) with cri := { quiet.cri with bkpwe := false } }) .backupLocked = true := by
  decide
theorem test_selosc : after (exec (.selosc .internal) (hostAt (.step 4)))
    (fun t => decide (t.cri.osc = .internal) && decide (t.boot.pos = .step 5)) = true := by decide
theorem test_oscrdy_ready : after (exec .oscrdy (hostAt (.step 5)))
    (fun t => decide (t.port.res = .q1 1#1) && decide (t.boot.pos = .step 6)) = true := by decide
theorem test_oscrdy_gives_up :
    after (exec .oscrdy { hostAt (.step 5) with
      env := { quiet.env with oscReady := false }, boot := { quiet.boot with pos := .step 5, polls := 999 } })
    (fun t => decide (t.boot.pos = .oscTimeout)) = true := by decide
theorem test_cfgpre : after (exec (.cfgpre 39999#32) (hostAt (.step 6)))
    (fun t => t.cri.presc == 39999#32 && decide (t.boot.pos = .step 7)) = true := by decide
theorem test_setcnt : after (exec (.setcnt 0x5FEE660F#32) (hostAt (.step 7)))
    (fun t => t.cri.cnt == 0x5FEE660F#32 && !t.cri.alrf && !t.cri.tickf) = true := by decide
theorem test_setalr : after (exec (.setalr 1609459215#32) (hostAt (.step 8)))
    (fun t => t.cri.alarm == 1609459215#32 && t.cri.cnt == 0x5FEE6600#32) = true := by decide
theorem test_enirq :
    after (exec .enirq { hostAt (.step 9) with cri := { quiet.cri with tickie := false, alrie := false } })
    (fun t => t.cri.tickie && t.cri.alrie) = true := by decide
theorem test_reghandler : after (exec .reghandler { hostAt (.step 10) with side := { quiet.side with hreg := false } })
    (fun t => t.side.hreg) = true := by decide
theorem test_wrsent :
    after (exec (.wrsent 0xA5A5#16) { hostAt (.step 11) with cri := { quiet.cri with sent := 0#16 } })
    (fun t => t.cri.sent == 0xA5A5#16) = true := by decide
theorem test_waitsync_clears : after (exec .waitsync (hostAt (.step 12)))
    (fun t => !t.cri.rsf && decide (t.boot.pos = .syncWait)) = true := by decide
theorem test_waitsync_passes : after (exec .waitsync (hostAt .syncWait))
    (fun t => t.cri.rsf && decide (t.boot.pos = .done)) = true := by decide

/-! ## Refusals and steps without operation code -/

theorem test_out_of_order_host : refusedAs (exec (.setcnt 0#32) (hostAt (.step 8))) .hostProtocol = true := by decide
theorem test_out_of_order_seq : refusedAs (exec .commit (seqAt .rendering 3#4 blk0)) .offSequence = true := by decide
theorem test_reserved_word : refusedAs (issueWord .seq 0xFF#8 Arg.zero quiet) (.reservedCode 0xFF#8) = true := by decide
/-- R42 and R220: the increment that reaches ALARM sets both flags; the counter wraps. -/
theorem test_inc_alarm : (ctrInc { quiet with cri := { quiet.cri with cnt := 0x5FEE660E#32 } }).cri.alrf = true ∧
    (ctrInc { quiet with cri := { quiet.cri with cnt := 0xFFFFFFFF#32 } }).cri.cnt = 0#32 := by decide
theorem test_vector : after (takeMove .seq (flags true false quiet)) (fun t => decide (t.blk.pc = ⟨.entry, 0#4⟩)) = true ∧
    after (takeMove .seq quiet) (fun t => decide (t = quiet)) = true := by decide
/-- R240, R242: the counter and its flags survive a system reset, the lock closes. -/
theorem test_reset : (systemReset true false (flags true true quiet)).cri.cnt = 0x5FEE6600#32 ∧
    (systemReset true false (flags true true quiet)).cri.tickf = true ∧
    (systemReset true false (flags true true quiet)).cri.bkpwe = false ∧
    (systemReset true false (flags true true quiet)).boot.pos = .step 0 := by decide

/-- Every opcode-table word, made the next one after reset, is taken by the step. -/
def runsFromReset (w : Nat) : Bool := after (step (State.reset.withFetchWord 8 w)) fun _ => true
theorem test_words_run_cri : (List.range 18).all (fun k => runsFromReset (k + 1)) = true := by decide +kernel
theorem test_words_run_rest :
    [0x20, 0x21, 0x22, 0x23, 0x30, 0x31, 0x40, 0x80, 0x81, 0x82, 0x83, 0x84, 0x85, 0x86, 0x87, 0x88].all runsFromReset = true := by
  decide +kernel

/-! ## Witnesses: for each obligation with hypotheses, a concrete state and operands that meet them, clause by clause -/

/-- The same machine before the registers are synchronised. -/
def unsynced (s : State) : State := { s with cri := { s.cri with rsf := false } }

theorem witness_RdhReadsTheHighHalf :
    ((seqAt .reading 0#4 blk0).port.issuer = .seq ∧ (seqAt .reading 0#4 blk0).blk.pc = ⟨.reading, 0#4⟩ ∧
      0x5FEE#16 = (if (seqAt .reading 0#4 blk0).cri.rsf then BitVec.ofNat 16 (0x5FEE6600 / 65536)
        else (Config.free 0).setWidth 16)) ∧
    (seqAt .reading 2#4 blk0).blk.pc = ⟨.reading, 2#4⟩ ∧
    (unsynced (seqAt .reading 0#4 blk0)).cri.rsf = false ∧ (unsynced (seqAt .reading 2#4 blk0)).blk.pc = ⟨.reading, 2#4⟩ :=
  ⟨⟨rfl, rfl, rfl⟩, rfl, rfl, rfl⟩
theorem witness_RdlReadsTheLowHalf :
    ((seqAt .reading 1#4 blk0).port.issuer = .seq ∧ (seqAt .reading 1#4 blk0).blk.pc = ⟨.reading, 1#4⟩ ∧
      0x6600#16 = (if (seqAt .reading 1#4 blk0).cri.rsf then BitVec.ofNat 16 (0x5FEE6600 % 65536)
        else (Config.free 0).setWidth 16)) ∧
    (seqAt .reading 3#4 blk0).blk.pc = ⟨.reading, 3#4⟩ ∧ (unsynced (seqAt .reading 3#4 blk0)).cri.rsf = false :=
  ⟨⟨rfl, rfl, rfl⟩, rfl, rfl⟩

/-- SEQ issues and is at the given place: the hypotheses of the statements about one operation of SEQ. -/
def seqPlaced (st : SeqState) (k : BitVec 4) (b : Block) : Bool :=
  decide ((seqAt st k b).port.issuer = .seq) && decide ((seqAt st k b).blk.pc = ⟨st, k⟩)

theorem witness_AsmReassemblesTheCounter :
    seqPlaced .reading 4#4 { blk0 with h1 := 0x0001#16, h2 := 0x0002#16 } = true ∧ seqPlaced .reading 4#4 blk0 = true := by
  decide
theorem witness_TzsubSubtractsTheOffset : seqPlaced .decoding 0#4 blk0 = true := by decide
theorem witness_HmsSplitsSecondsIntoClockAndDays : seqPlaced .decoding 1#4 { blk0 with e := 0xFFFFFFFF#32 } = true := by decide
theorem witness_WdayReadsTheWeekdayTable : seqPlaced .decoding 2#4 { blk0 with days := 49710#32 } = true := by decide
theorem witness_YearinitStartsAt1970 : seqPlaced .decoding 3#4 { blk0 with days := 49710#32 } = true := by decide

def yearBlk (year : BitVec 16) (leap : Bool) (d : Word) (leapDays : BitVec 8) : Block :=
  { blk0 with leap := leap, d := d, leapDays := leapDays, cm := { Moment.zero with year := year } }

/-- R125 at its edges: 365 days of a common year and 366 of a leap year are taken off, 364 and 365 are not; and the largest
year and LEAPDAYS that the premises admit. -/
theorem witness_YearstepTestsAndSubtracts :
    (seqPlaced .decoding 4#4 (yearBlk 1970#16 false 365#32 0#8) && seqPlaced .decoding 4#4 (yearBlk 65534#16 true 366#32 254#8) &&
      seqPlaced .decoding 4#4 (yearBlk 1970#16 false 364#32 0#8) && seqPlaced .decoding 4#4 (yearBlk 1972#16 true 365#32 0#8)) =
        true ∧
    365 ≤ (yearBlk 1970#16 false 365#32 0#8).d.toNat ∧ (yearBlk 1970#16 false 365#32 0#8).cm.year.toNat + 1 < 65536 ∧
    366 ≤ (yearBlk 65534#16 true 366#32 254#8).d.toNat ∧ (yearBlk 65534#16 true 366#32 254#8).cm.year.toNat + 1 < 65536 ∧
    (yearBlk 65534#16 true 366#32 254#8).leapDays.toNat < 255 ∧
    (yearBlk 1970#16 false 364#32 0#8).d.toNat < 365 ∧ (yearBlk 1972#16 true 365#32 0#8).d.toNat < 366 := by decide
theorem witness_DoysetAndFebfixPrepareTheScan :
    (seqPlaced .decoding 5#4 { blk0 with d := 365#32 } && seqPlaced .decoding 5#4 blk0 && seqPlaced .decoding 6#4 blk0 &&
      seqPlaced .decoding 6#4 { blk0 with leap := true }) = true ∧ ({ blk0 with d := 365#32 } : Block).d.toNat ≤ 365 := by decide

def scanBlk (leap : Bool) (february : Byte) (doy : BitVec 9) : Block :=
  { blk0 with leap := leap, mdays := MonthTable.withFebruary february, cm := { Moment.zero with doy := doy } }

/-- What MonscanFindsMonthAndDate asks of the state and of the month `m`. -/
def scanMeets (b : Block) (m : Nat) : Bool :=
  seqPlaced .decoding 7#4 b && decide (b.mdays = MonthTable.withFebruary (if b.leap then 29#8 else 28#8)) &&
    decide (b.cm.doy.toNat ≤ daysThrough b.leap 12) && decide (1 ≤ m) && decide (m ≤ 12) &&
    decide (b.cm.doy.toNat ≤ daysThrough b.leap m) &&
    (List.range m).all fun k => decide (k = 0) || decide (daysThrough b.leap k < b.cm.doy.toNat)

/-- Day 1 and 31 (January), 32 (February), 366 of a leap year and 365 of a common one (December). -/
theorem witness_MonscanFindsMonthAndDate :
    (scanMeets (scanBlk false 28#8 1#9) 1 && scanMeets (scanBlk false 28#8 31#9) 1 && scanMeets (scanBlk false 28#8 32#9) 2 &&
      scanMeets (scanBlk true 29#8 366#9) 12 && scanMeets (scanBlk false 28#8 365#9) 12) = true := by decide
/-- The last day within the table and the first one beyond it. -/
theorem witness_MonscanStopsOnlyPastDecember :
    (seqPlaced .decoding 7#4 (scanBlk false 28#8 365#9) && (scanBlk false 28#8 365#9).mdays.wf &&
      seqPlaced .decoding 7#4 (scanBlk false 28#8 366#9) && (scanBlk false 28#8 366#9).mdays.wf) = true ∧
    (scanBlk false 28#8 365#9).cm.doy.toNat ≤ 337 + (scanBlk false 28#8 365#9).mdays.m2.toNat ∧
    337 + (scanBlk false 28#8 366#9).mdays.m2.toNat < (scanBlk false 28#8 366#9).cm.doy.toNat := by decide

theorem witness_RdflagsTestsTickFirst : seqPlaced .entry 0#4 blk0 = true := by decide
theorem witness_DsprdyGuardsTheRead : seqPlaced .entry 1#4 blk0 = true := by decide
theorem witness_FlagClearsClearOneFlag :
    (seqPlaced .entry 2#4 blk0 && seqPlaced .entry 2#4 { blk0 with ready := true } && seqPlaced .rendering 5#4 blk0 &&
      seqPlaced .alarmHandling 2#4 blk0) = true := by decide
theorem witness_ClrbufEmptiesTheBuffer : seqPlaced .rendering 0#4 blk0 = true := by decide
theorem witness_DrawtextAppendsToTheBuffer :
    (seqPlaced .rendering 1#4 blk0 && seqPlaced .rendering 2#4 blk0 && seqPlaced .rendering 3#4 blk0) = true := by decide
theorem witness_CommitCopiesTheBuffer : seqPlaced .rendering 4#4 blk0 = true := by decide
theorem witness_SetlvlDrivesOnePin :
    seqPlaced .alarmHandling 0#4 blk0 = true ∧
    (edgeAt (.toggle true)).port.issuer = .edge ∧ (edgeAt (.toggle true)).edge.pos ≠ .rest ∧
      (edgeAt (.toggle true)).cfg.edgePreempts = true := by decide
theorem witness_RdlvlReadsOnePin :
    (edgeAt .rest).port.issuer = .edge ∧ (edgeAt .rest).edge.pos = .rest ∧ 0 < (edgeAt .rest).edge.runs ∧
      (edgeAt .rest).cfg.edgePreempts = true ∧ (edgeAt .rest).blk.pc = ⟨.idle, 0#4⟩ := by decide
theorem witness_LogAppendsTheNotice :
    seqPlaced .alarmHandling 1#4 blk0 = true ∧
    (hostAt .oscTimeout).port.issuer = .host ∧ (hostAt .oscTimeout).boot.pos = .oscTimeout ∧
    (hostAt .done).port.issuer = .host ∧ (hostAt .done).side.sinkInit = some .ok := by decide

/-- HOST issues, is at the given place, and the domain is unlocked: the hypotheses of the statements about one operation of
HOST. -/
def hostPlaced (p : HostPos) : Bool :=
  decide ((hostAt p).port.issuer = .host) && decide ((hostAt p).boot.pos = p) && (hostAt p).cri.bkpwe

theorem witness_CauseAndSentinelDecideTheColdStart : (hostPlaced (.step 1) && hostPlaced (.step 2)) = true := by decide
theorem witness_WrsentWritesTheSentinel :
    hostPlaced (.step 11) = true ∧ ({ hostAt (.step 11) with cri := { quiet.cri with bkpwe := false } } : State).cri.bkpwe = false := by
  decide
theorem witness_RstbkpResetsTheBackupDomain : hostPlaced (.step 3) = true := by decide
theorem witness_SeloscSelectsTheSource : hostPlaced (.step 4) = true := by decide
theorem witness_OscrdyPollsInTheReadyWait : hostPlaced (.step 5) = true := by decide
/-- The largest divisor that fits in PRESC_W = 20 bits, and the smallest that does not. -/
theorem witness_CfgpreWritesThePrescaler :
    hostPlaced (.step 6) = true ∧ (0x000FFFFF#32).toNat < 2 ^ (hostAt (.step 6)).cfg.prescW ∧
      ¬ (0x00100000#32).toNat < 2 ^ (hostAt (.step 6)).cfg.prescW := by decide
theorem witness_SetcntAndSetalrWriteWholeValues : (hostPlaced (.step 7) && hostPlaced (.step 8)) = true := by decide
theorem witness_HostSetsLockEnablesAndHandler :
    (hostPlaced (.step 0) && hostPlaced (.step 9) && hostPlaced (.step 10)) = true := by decide
theorem witness_WaitsyncClearsThenWaits :
    (hostPlaced (.step 12) && hostPlaced .syncWait) = true ∧ (hostAt .syncWait).cri.rsf = true ∧
      (unsynced (hostAt .syncWait)).cri.rsf = false ∧ (unsynced (hostAt .syncWait)).boot.pos = .syncWait := by decide

/-- The machine with the domain locked. -/
def locked (s : State) : State := { s with cri := { s.cri with bkpwe := false } }

theorem witness_LockedWritesAreRefused :
    (locked (hostAt (.step 3))).cri.bkpwe = false ∧
    ((locked (seqAt .alarmHandling 2#4 blk0)).cri.bkpwe = false ∧ seqPlaced .alarmHandling 2#4 blk0 = true) ∧
    (locked (seqAt .rendering 5#4 blk0)).cri.bkpwe = false ∧ seqPlaced .rendering 5#4 blk0 = true := by decide
/-- The first and last codes of the groups, and the codes just beside them. -/
theorem witness_ReservedCodesAreRefused :
    (∀ w ∈ [0x01#8, 0x12#8, 0x20#8, 0x23#8, 0x30#8, 0x31#8, 0x40#8, 0x80#8, 0x88#8],
      (1 ≤ w.toNat ∧ w.toNat ≤ 0x12) ∨ (0x20 ≤ w.toNat ∧ w.toNat ≤ 0x23) ∨ w = 0x30#8 ∨ w = 0x31#8 ∨
        w = 0x40#8 ∨ (0x80 ≤ w.toNat ∧ w.toNat ≤ 0x88)) ∧
    ∀ w ∈ [0x00#8, 0x13#8, 0x1F#8, 0x24#8, 0x2F#8, 0x32#8, 0x3F#8, 0x41#8, 0x7F#8, 0x89#8, 0xFF#8],
      ¬((1 ≤ w.toNat ∧ w.toNat ≤ 0x12) ∨ (0x20 ≤ w.toNat ∧ w.toNat ≤ 0x23) ∨ w = 0x30#8 ∨ w = 0x31#8 ∨
        w = 0x40#8 ∨ (0x80 ≤ w.toNat ∧ w.toNat ≤ 0x88)) := by decide
/-- SETALR where INIT is at SETCNT, an operation of SEQ issued by HOST past INIT, and a notice of an outcome that has not been. -/
theorem witness_HostOutOfOrderIsRefused :
    hostPlaced (.step 7) = true ∧ hostPlaced .done = true ∧
    (∀ j, hostInstr (hostAt (.step 7)) = some j → encodeWord (.setalr 0#32) ≠ encodeWord j) ∧
    (∀ j, hostInstr (hostAt .done) = some j → encodeWord .rdh ≠ encodeWord j) ∧
    (∀ j, hostInstr (hostAt .done) = some j → encodeWord (.log (.displayInit .failed)) ≠ encodeWord j) ∧
    (∀ outcome, (hostAt (.step 7)).side.sinkInit = some outcome → Instr.setalr 0#32 ≠ .log (.displayInit outcome)) ∧
    (∀ outcome, (hostAt .done).side.sinkInit = some outcome → Instr.rdh ≠ .log (.displayInit outcome)) ∧
    ∀ outcome, (hostAt .done).side.sinkInit = some outcome →
      Instr.log (.displayInit .failed) ≠ .log (.displayInit outcome) := by
  refine ⟨rfl, rfl, fun j h => ?_, fun j h => ?_, fun j h => ?_, fun _ _ h => ?_, fun _ _ h => ?_, fun _ ho h => ?_⟩
  · cases h; decide
  · cases h
  · cases h
  · cases h
  · cases h
  · cases h; cases ho
/-- SEQ said to issue COMMIT at (Rendering,3); EDGE said to issue SETLVL at rest, and RDLVL where it may not run. -/
theorem witness_OffSequenceIssuesAreRefused :
    (seqAt .rendering 3#4 blk0).cri.bkpwe = true ∧ (seqAt .rendering 3#4 blk0).port.issuer = .seq ∧
    (∀ j, seqInstr (seqAt .rendering 3#4 blk0) = some j → encodeWord .commit ≠ encodeWord j) ∧
    (edgeAt .rest).cri.bkpwe = true ∧ (edgeAt .rest).port.issuer = .edge ∧
    (∀ j, edgeInstr (edgeAt .rest) = some j →
      ((edgeAt .rest).cfg.edgePreempts = true ∨ (edgeAt .rest).blk.pc = ⟨.idle, 0#4⟩) →
      encodeWord (.setlvl .diag true) ≠ encodeWord j) := by
  refine ⟨rfl, rfl, fun j h => ?_, rfl, rfl, fun j h _ => ?_⟩ <;> (cases h; decide)
theorem witness_OffSequenceIssuesAreRefused_no_preemption :
    ¬(({ cfg with edgePreempts := false } : Params).edgePreempts = true ∨ (seqAt .reading 0#4 blk0).blk.pc = ⟨.idle, 0#4⟩) := by
  decide

/-- The same state with the given lines to come. -/
def comes (ls : List Line) (s : State) : State := { s with sched := ls }

theorem witness_StepRunsTheDecodedOperation :
    (comes [.op .seq 0x81#8 Arg.zero] (seqAt .decoding 0#4 blk0)).sched = .op .seq 0x81#8 Arg.zero :: [] ∧
    decode 0x81#8 Arg.zero = .ok .tzsub := ⟨rfl, rfl⟩
theorem witness_StepRunsTheAgentsNextOperation :
    ((comes [.move .seq] (seqAt .decoding 0#4 blk0)).sched = .move .seq :: [] ∧
      (seqAt .decoding 0#4 blk0).blk.pc ≠ ⟨.idle, 0#4⟩ ∧ seqInstr (seqAt .decoding 0#4 blk0) = some .tzsub) ∧
    ((comes [.move .host] (hostAt (.step 12))).sched = .move .host :: [] ∧ hostInstr (hostAt (.step 12)) = some .waitsync) ∧
    ((comes [.move .edge] (edgeAt .rest)).sched = .move .edge :: [] ∧ (edgeAt .rest).cfg.edgePreempts = true ∧
      edgeInstr (edgeAt .rest) = some (.rdlvl .diag)) ∧
    quiet.sched = [] := ⟨⟨rfl, by decide, rfl⟩, ⟨rfl, rfl⟩, ⟨rfl, rfl, rfl⟩, rfl⟩
theorem witness_DecodeAndEncodeAgree : decode 0x88#8 Arg.zero = .ok .monscan := rfl
theorem witness_VectorEntersFromIdle :
    ((flags true false quiet).blk.pc = ⟨.idle, 0#4⟩ ∧ (flags true false quiet).side.hreg = true ∧
      (flags true false quiet).cri.tickf = true ∧ (flags true false quiet).cri.tickie = true) ∧
    ((flags false true quiet).cri.alrf = true ∧ (flags false true quiet).cri.alrie = true) ∧
    quiet.blk.pc = ⟨.idle, 0#4⟩ ∧ ¬(quiet.cri.tickf = true ∨ quiet.cri.alrf = true) := by decide
theorem witness_SequencerFollowsTheTable :
    listedPc (seqAt .decoding 4#4 blk0).blk.pc = true ∧ ∃ t, takeMove .seq (seqAt .decoding 4#4 blk0) = .next t :=
  ⟨rfl, _, rfl⟩
theorem witness_IdleTurnsChangeNothing :
    quiet.boot.pos = .done ∧ quiet.edge.pos = .rest ∧ quiet.edge.runs = 0 ∧
    ({ cfg with edgePreempts := false } : Params).edgePreempts = false ∧
    (seqAt .reading 0#4 blk0).blk.pc ≠ ⟨.idle, 0#4⟩ := by decide
theorem witness_CounterIncrementSetsTheFlags :
    quiet.cri.osc ≠ .none ∧ ({ quiet.cri with osc := .none } : Cri).osc = .none := by decide
theorem witness_BackupLossMakesTheSentinelAbsent : quiet.cfg.wf = true := by decide
theorem witness_EnvironmentStepsChangeOneThing :
    quiet.cri.osc ≠ .none ∧ ({ quiet.cri with osc := .none } : Cri).osc = .none ∧
      quiet.side.sinkInit = some .ok ∧ ({ quiet.side with sinkInit := none } : HostSide).sinkInit = none ∧
      ({ quiet.side with sinkInit := some .failed } : HostSide).sinkInit = some .failed := by decide

/-- The quiet machine with SEQ's turn to come. -/
def resting : State := comes [.move .seq] quiet

theorem resting_consistent : Consistent resting where
  params := by decide
  listed := by decide
  months := by decide
  prescaler := by decide
  unlocked := fun _ => rfl
  enables := rfl
  oscillator := fun h => absurd h (by decide)
  wait := fun h => absurd h (by decide)
  display := by decide
  decode := by constructor <;> exact fun h => absurd h (by decide)

/-- The block that has decoded the source's first example and is to commit its frame. -/
def drawnBlk : Block :=
  { blk0 with
    pc := ⟨.rendering, 4#4⟩, raw := 1609459200#32, e := 1609441200#32, days := 18627#32, d := 365#32, leap := true
    leapDays := 12#8, m := 12#4, cum := 366#16, prev := 335#16, mdays := MonthTable.withFebruary 29#8
    cm := { year := 2020#16, month := 12#4, date := 31#5, hour := 19#5, minute := 0#6, second := 0#6, weekday := 4#3
            doy := 366#9 } }

/-- The machine that is to commit: the buffer holds the whole frame, the panel nothing yet. -/
def drawn : State :=
  { quiet with blk := drawnBlk, side := { quiet.side with dbuf := frame drawnBlk.cm }, sched := [.move .seq] }

theorem drawn_consistent : Consistent drawn where
  params := by decide
  listed := by decide
  months := by decide
  prescaler := by decide
  unlocked := fun _ => rfl
  enables := rfl
  oscillator := fun h => absurd h (by decide)
  wait := fun h => absurd h (by decide)
  display := by decide
  decode :=
    { offset := fun _ => by decide +kernel, clock := fun _ => by decide +kernel, weekday := fun _ => by decide +kernel
      years := fun _ => by decide +kernel, loopEnded := fun _ => by decide, dayOfYear := fun _ => by decide
      february := fun _ => by decide, moment := fun _ => by decide +kernel }

theorem drawn_frames : FramesWhole drawn where
  moves := rfl
  panel := .inl rfl
  drawing := fun _ _ _ => rfl
  committed := fun h => absurd h (by decide)

theorem witness_StepKeepsConsistency :
    Consistent resting ∧ (∃ t, step resting = .next t) ∧ Consistent drawn ∧ ∃ t, step drawn = .next t :=
  ⟨resting_consistent, ⟨_, rfl⟩, drawn_consistent, ⟨_, rfl⟩⟩
theorem witness_ConsistentStatesNeverFault : Consistent drawn := drawn_consistent
theorem witness_AgentsAreNeverRefused :
    Consistent drawn ∧ ∀ l ∈ drawn.sched.head?, isMoveLine l = true :=
  ⟨drawn_consistent, fun _ h => by cases h; rfl⟩
theorem witness_StepKeepsFramesWhole : Consistent drawn ∧ FramesWhole drawn ∧ ∃ t, step drawn = .next t :=
  ⟨drawn_consistent, drawn_frames, _, rfl⟩
/-- A next state of an operation of each agent. -/
theorem witness_RegistersHaveTheirWriters :
    (∃ t, exec .clrtick (seqAt .rendering 5#4 blk0) = .next t) ∧ (∃ t, exec .enirq (hostAt (.step 9)) = .next t) ∧
      ∃ t, exec (.rdlvl .diag) (edgeAt .rest) = .next t := ⟨⟨_, rfl⟩, ⟨_, rfl⟩, ⟨_, rfl⟩⟩
theorem witness_EdgeRunsDoNotDisturbTheSequencer :
    (edgeAt .rest).cfg.edgePreempts = true ∧ (edgeAt .rest).edge.pos = .rest ∧ 0 < (edgeAt .rest).edge.runs ∧
      ∃ t, runMoves [.edge, .edge, .seq] (edgeAt .rest) = .next t := ⟨rfl, rfl, by decide, _, rfl⟩

/-- The quiet machine with a tick pending and the display not up. -/
def skipping : State :=
  { flags true true quiet with side := { quiet.side with displayReady := false, sinkInit := some .failed } }

theorem witness_SkipPathTouchesNothing :
    skipping.blk.pc = ⟨.idle, 0#4⟩ ∧ skipping.side.hreg = true ∧ skipping.cri.tickf = true ∧ skipping.cri.tickie = true ∧
      skipping.cri.alrf = true ∧ skipping.cri.alrie = true ∧ skipping.side.displayReady = false := by decide
theorem witness_AlarmPathTurnsTheRelayOff :
    (flags false true quiet).blk.pc = ⟨.idle, 0#4⟩ ∧ (flags false true quiet).side.hreg = true ∧
      (flags false true quiet).cri.tickf = false ∧ (flags false true quiet).cri.alrf = true ∧
      (flags false true quiet).cri.alrie = true := by decide

/-- SEQ before its first read, with the counter at `c`. -/
def readingAt (c : Word) : State := { seqAt .reading 0#4 blk0 with cri := { quiet.cri with cnt := c } }

/-- Rows 15 and 17 of V-RD: 65535 increments that keep the high half, and 65536, the most the premise admits. -/
theorem witness_SafeReadIsExact :
    ((readingAt 0#32).blk.pc = ⟨.reading, 0#4⟩ ∧ (readingAt 0#32).cri.rsf = true ∧ (readingAt 0#32).cri.osc ≠ .none) ∧
    ((readingAt 0#32).cri.cnt.toNat / 65536 = ((readingAt 0#32).cri.cnt.toNat + 65535 + 0) % 2 ^ 32 / 65536 ∧
      65535 + 0 ≤ 65536) ∧
    ((readingAt 0x00010005#32).cri.cnt.toNat / 65536 ≠
      ((readingAt 0x00010005#32).cri.cnt.toNat + 65536 + 0) % 2 ^ 32 / 65536 ∧ 65536 + 0 + 0 ≤ 65536) := by decide
theorem witness_SafeReadFailsPastItsPremise :
    (readingAt 0x0000FFFF#32).blk.pc = ⟨.reading, 0#4⟩ ∧ (readingAt 0x0000FFFF#32).cri.rsf = true ∧
      (readingAt 0x0000FFFF#32).cri.osc ≠ .none ∧ (readingAt 0x0000FFFF#32).cri.cnt = 0x0000FFFF#32 := by decide
theorem witness_FullTickShowsTheCounter :
    (flags true false quiet).blk.pc = ⟨.idle, 0#4⟩ ∧ (flags true false quiet).blk.mdays.wf = true ∧
      (flags true false quiet).side.hreg = true ∧ (flags true false quiet).cri.tickf = true ∧
      (flags true false quiet).cri.tickie = true ∧ (flags true false quiet).side.displayReady = true ∧
      (flags true false quiet).cri.rsf = true := by decide
theorem witness_EveryInvocationReturns : Consistent drawn := drawn_consistent
theorem witness_CalendarIsGregorian :
    ∃ (e leap : Nat) (cm : Moment), cm = calendar 0#32 ∧ e = ((0#32).toNat + (2 ^ 32 - 18000)) % 2 ^ 32 ∧
      leap = (if isLeap cm.year.toNat then 1 else 0) := ⟨_, _, _, rfl, rfl, rfl⟩

/-- HOST at the start of INIT, with the reset causes and the sentinel as given. -/
def booting (por pin : Bool) (sent : Half) : State :=
  { hostAt (.step 0) with env := { por := por, pinrst := pin, oscReady := false }, cri := { quiet.cri with sent := sent } }

theorem witness_WarmBootReseedsNothing :
    (booting true false 0xA5A5#16).boot.pos = .step 0 ∧ (booting true false 0xA5A5#16).cri.sent = cfg.sentinel ∧
      (booting true false 0xA5A5#16).cfg = cfg ∧ (booting true false 0xA5A5#16).env.pinrst = false := by decide
/-- A pin reset with the sentinel present, and another reset without it. -/
theorem witness_ColdStartArmsTheClock :
    ((booting true true 0xA5A5#16).cfg.wf = true ∧ (booting true true 0xA5A5#16).boot.pos = .step 0 ∧
      (booting true true 0xA5A5#16).env.pinrst = true) ∧
    (booting false false 0#16).cfg.wf = true ∧ (booting false false 0#16).boot.pos = .step 0 ∧
      (booting false false 0#16).env.por = false ∧ (booting false false 0#16).cri.sent ≠ (booting false false 0#16).cfg.sentinel := by
  decide

end Sys2Proof.Tests
end

section
/-! PROOFS. The arithmetic of the decode: the year loop and the month scan agree with the calendar of
41_decoder R136. -/

namespace Sys2Proof.Machine

/-! ## The year loop (R125, R136) -/

theorem ylen_bounds (leap : Bool) : 365 ≤ ylen leap ∧ ylen leap ≤ 366 := by cases leap <;> decide

theorem le_daysOfYears (k : Nat) : 365 * k ≤ daysOfYears k := by
  induction k with
  | zero => rfl
  | succ k ih =>
    have := (ylen_bounds (isLeap (1970 + k))).1
    simp only [daysOfYears]
    omega

theorem daysOfYears_le_add (j k : Nat) : daysOfYears j ≤ daysOfYears (j + k) := by
  induction k with
  | zero => rfl
  | succ k ih => exact Nat.le_trans ih (Nat.le_add_right _ _)

theorem leapYears_le (k : Nat) : leapYears k ≤ k := by
  induction k with
  | zero => rfl
  | succ k ih =>
    simp only [leapYears]
    split <;> omega

/-- A 32-bit count of seconds spans fewer than 137 years (R125). -/
theorem years_lt_of_word {v : Word} {k d : Nat} (h : daysOfYears k + d = v.toNat / 86400) : k < 137 := by
  have := le_daysOfYears k
  have := v.isLt
  omega

/-- The loop started at year 1970 + j takes off k whole years and stops in the year in which the rest falls short. -/
theorem yearLoop_from {bound k j n d : Nat} (hk : k ≤ bound) (hn : n + daysOfYears j = daysOfYears (j + k) + d)
    (hd : d < ylen (isLeap (1970 + (j + k)))) : yearLoop bound (1970 + j) n = (1970 + (j + k), d) := by
  induction k generalizing bound j n with
  | zero =>
    obtain rfl : n = d := by simpa [Nat.add_comm] using hn
    cases bound with
    | zero => rfl
    | succ bound => exact if_neg (Nat.not_le.mpr hd)
  | succ k ih =>
    obtain ⟨bound, rfl⟩ : ∃ c, bound = c + 1 := ⟨bound - 1, by omega⟩
    have hj : j + (k + 1) = j + 1 + k := by omega
    have hmono := daysOfYears_le_add (j + 1) k
    have hsucc : daysOfYears (j + 1) = daysOfYears j + ylen (isLeap (1970 + j)) := rfl
    rw [hj] at hn hd ⊢
    rw [yearLoop, if_pos (by omega)]
    exact ih (by omega) (by omega) hd

/-- The year loop of the calendar of `v` ends in the only year that its days reach and do not pass. -/
theorem yearLoop_of_days {v : Word} {k d : Nat} (hk : daysOfYears k + d = v.toNat / 86400)
    (hd : d < ylen (isLeap (1970 + k))) : yearLoop 137 1970 (v.toNat / 86400) = (1970 + k, d) := by
  have h := yearLoop_from (bound := 137) (j := 0) (k := k) (n := v.toNat / 86400) (d := d)
    (Nat.le_of_lt (years_lt_of_word hk))
  simp only [Nat.zero_add, Nat.add_zero] at h
  exact h (by simpa [daysOfYears] using hk.symm) hd

/-! ## The month scan (R128, R136) -/

theorem monthLen_le (leap : Bool) (m : Nat) : monthLen leap m ≤ 31 := by
  cases leap <;> unfold monthLen <;> split <;> simp

theorem daysThrough_le (leap : Bool) (m : Nat) : daysThrough leap m ≤ 31 * m := by
  induction m with
  | zero => rfl
  | succ m ih =>
    have := monthLen_le leap (m + 1)
    simp only [daysThrough]
    omega

theorem daysThrough_twelve (leap : Bool) : daysThrough leap 12 = ylen leap := by cases leap <;> rfl

/-- "least m in 1..12" of R136: the month exists, its total reaches the day, and no earlier one's does. -/
theorem leastMonth_spec {leap : Bool} {doy : Nat} (h : doy ≤ daysThrough leap 12) :
    1 ≤ leastMonth leap doy ∧ leastMonth leap doy ≤ 12 ∧ doy ≤ daysThrough leap (leastMonth leap doy) ∧
      ∀ j, 1 ≤ j → j < leastMonth leap doy → daysThrough leap j < doy := by
  unfold leastMonth
  split
  next k hk =>
    obtain ⟨hreach, hmem, hfirst⟩ := List.find?_range_eq_some.mp hk
    rw [List.mem_range] at hmem
    refine ⟨by omega, by omega, of_decide_eq_true hreach, fun j hj hjk => ?_⟩
    have := hfirst (j - 1) (by omega)
    rw [Nat.sub_add_cancel hj] at this
    simpa using this
  next hnone =>
    refine ⟨by decide, by decide, h, fun j hj hjk => ?_⟩
    have := List.find?_range_eq_none.mp hnone (j - 1) (by omega)
    rw [Nat.sub_add_cancel hj] at this
    simpa using this

/-- The months before the one that R136 names end before the day. -/
theorem daysThrough_before_leastMonth {leap : Bool} {doy : Nat} (hpos : 1 ≤ doy) (h : doy ≤ daysThrough leap 12) :
    daysThrough leap (leastMonth leap doy - 1) < doy := by
  obtain ⟨-, -, -, hfirst⟩ := leastMonth_spec h
  obtain h0 | h1 : leastMonth leap doy - 1 = 0 ∨ 1 ≤ leastMonth leap doy - 1 := by omega
  · rw [h0]
    exact hpos
  · exact hfirst _ h1 (by omega)

/-- After month k the scan adds the length of month k + 1 (R33). -/
theorem monthsAfterFirst_drop (leap : Bool) {k : Nat} (h1 : 1 ≤ k) (h2 : k < 12) :
    (monthsAfterFirst (MonthTable.withFebruary (february leap))).drop (k - 1) =
      BitVec.ofNat 8 (monthLen leap (k + 1)) ::
        (monthsAfterFirst (MonthTable.withFebruary (february leap))).drop k := by
  interval_cases k <;> cases leap <;> rfl

/-- The scan, begun at month k, ends at the first month from k on whose cumulative total reaches the day. -/
theorem monthScan_from (leap : Bool) {doy : BitVec 16} {k m : Nat} (hk : 1 ≤ k) (hkm : k ≤ m) (hm : m ≤ 12)
    (hreach : doy.toNat ≤ daysThrough leap m) (hfirst : ∀ j, k ≤ j → j < m → daysThrough leap j < doy.toNat) :
    monthScan doy (BitVec.ofNat 4 k) (BitVec.ofNat 16 (daysThrough leap k)) (BitVec.ofNat 16 (daysThrough leap (k - 1)))
        ((monthsAfterFirst (MonthTable.withFebruary (february leap))).drop (k - 1)) =
      some (BitVec.ofNat 4 m, BitVec.ofNat 16 (daysThrough leap m), BitVec.ofNat 16 (daysThrough leap (m - 1))) := by
  obtain ⟨n, rfl⟩ := Nat.exists_eq_add_of_le hkm
  induction n generalizing k with
  | zero =>
    have := daysThrough_le leap k
    rw [Nat.add_zero] at hreach ⊢
    unfold monthScan
    rw [if_pos]
    simp only [BitVec.le_def, BitVec.toNat_ofNat]
    omega
  | succ n ih =>
    have hlen := monthLen_le leap (k + 1)
    have htotal := daysThrough_le leap k
    have hbefore := hfirst k (Nat.le_refl k) (by omega)
    have hcum : BitVec.ofNat 16 (daysThrough leap k) + (BitVec.ofNat 8 (monthLen leap (k + 1))).setWidth 16 =
        BitVec.ofNat 16 (daysThrough leap (k + 1)) := by
      apply BitVec.eq_of_toNat_eq
      simp only [daysThrough, BitVec.toNat_add, BitVec.toNat_setWidth, BitVec.toNat_ofNat]
      omega
    have hnext : BitVec.ofNat 4 k + 1#4 = BitVec.ofNat 4 (k + 1) := (BitVec.ofNat_add k 1).symm
    rw [monthsAfterFirst_drop leap hk (by omega), monthScan, if_neg, hcum, hnext]
    · have := ih (k := k + 1) (by omega) (by omega) (by omega) (by rwa [Nat.add_right_comm])
        (fun j hj hjm => hfirst j (by omega) (by omega))
      simpa [Nat.add_right_comm, Nat.add_assoc] using this
    · simp only [BitVec.le_def, BitVec.toNat_ofNat]
      omega

/-- MONSCAN's scan of the table that FEBFIX leaves finds the month that R136 names. -/
theorem monthScan_eq_leastMonth (leap : Bool) {doy : BitVec 16} (h : doy.toNat ≤ daysThrough leap 12) :
    monthScan doy 1#4 ((MonthTable.withFebruary (february leap)).m1.setWidth 16) 0#16
        (monthsAfterFirst (MonthTable.withFebruary (february leap))) =
      some (BitVec.ofNat 4 (leastMonth leap doy.toNat), BitVec.ofNat 16 (daysThrough leap (leastMonth leap doy.toNat)),
        BitVec.ofNat 16 (daysThrough leap (leastMonth leap doy.toNat - 1))) := by
  obtain ⟨hpos, hle, hreach, hfirst⟩ := leastMonth_spec h
  exact monthScan_from leap (k := 1) (Nat.le_refl 1) hpos hle hreach hfirst

end Sys2Proof.Machine
end

section
/-! PROOFS. The block keeps what DECODE has computed: each of its steps (41_decoder R121 to R128) adds its own result to
what the steps before it have left. -/

namespace Sys2Proof.Machine

variable {b b' : Block}

/-! ## Consistency, stage by stage -/

/-- What holds from stage `n` of the decode on: the clauses of `DecodeSound`, by number. -/
def DecodeClause (b : Block) (n : Nat) : Prop :=
  match n with
  | 1 => b.e = b.raw - 18000#32
  | 2 =>
    b.cm.second = (calendar b.raw).second ∧ b.cm.minute = (calendar b.raw).minute ∧
      b.cm.hour = (calendar b.raw).hour ∧ b.days.toNat = (b.raw - 18000#32).toNat / 86400
  | 3 => b.cm.weekday = (calendar b.raw).weekday
  | 4 =>
    1970 ≤ b.cm.year.toNat ∧ b.leap = isLeap b.cm.year.toNat ∧
      daysOfYears (b.cm.year.toNat - 1970) + b.d.toNat = b.days.toNat ∧
        b.leapDays.toNat = leapYears (b.cm.year.toNat - 1970)
  | 5 => b.d.toNat < ylen b.leap
  | 6 => b.cm.doy.toNat = b.d.toNat + 1
  | 7 => b.mdays.m2 = february b.leap
  | 8 => b.cm = calendar b.raw
  | _ => True

@[simp] theorem decodeStage_decoding (k : BitVec 4) : decodeStage ⟨.decoding, k⟩ = k.toNat := rfl
@[simp] theorem decodeStage_rendering (k : BitVec 4) : decodeStage ⟨.rendering, k⟩ = 8 := rfl

theorem decodeSound_iff : DecodeSound b ↔ ∀ n ≤ decodeStage b.pc, DecodeClause b n := by
  constructor
  · intro h n hn
    match n with
    | 0 => trivial
    | 1 => exact h.offset hn
    | 2 => exact h.clock hn
    | 3 => exact h.weekday hn
    | 4 => exact h.years hn
    | 5 => exact h.loopEnded hn
    | 6 => exact h.dayOfYear hn
    | 7 => exact h.february hn
    | 8 => exact h.moment hn
    | n + 9 => trivial
  · intro h
    exact ⟨h 1, h 2, h 3, h 4, h 5, h 6, h 7, h 8⟩

/-- The part of consistency that speaks of the block: a pc of R170, the constants of MDAYS, the decode so far. -/
structure BlockSound (b : Block) : Prop where
  listed : listedPc b.pc = true
  months : b.mdays.wf = true
  decode : DecodeSound b

/-- Outside Decoding and Rendering nothing is claimed of the decode's registers. -/
theorem BlockSound.outside (hl : listedPc b.pc = true) (hm : b.mdays.wf = true) (h0 : decodeStage b.pc = 0) :
    BlockSound b where
  listed := hl
  months := hm
  decode := decodeSound_iff.mpr fun n hn => by
    obtain rfl : n = 0 := by omega
    trivial

/-- A step of the decode to stage `n` has to keep the clauses below `n` and to give the one of `n`. -/
theorem BlockSound.advance {n : Nat} (h : BlockSound b) (hl : listedPc b'.pc = true) (hm : b'.mdays.wf = true)
    (hn : decodeStage b'.pc = n) (hle : n ≤ decodeStage b.pc + 1)
    (frame : ∀ k < n, DecodeClause b k → DecodeClause b' k) (new : DecodeClause b' n) : BlockSound b' where
  listed := hl
  months := hm
  decode := decodeSound_iff.mpr fun k hk => by
    obtain rfl | hlt : k = n ∨ k < n := by omega
    · exact new
    · exact frame k hlt (decodeSound_iff.mp h.decode k (by omega))

/-! ## The steps of the decode -/

theorem BlockSound.after_tzsub (h : BlockSound b) (hp : b.pc = ⟨.decoding, 0#4⟩) :
    BlockSound { b with e := b.raw - 18000#32, pc := ⟨.decoding, 1#4⟩ } :=
  h.advance (n := 1) rfl h.months rfl (by simp [hp])
    (fun k hk => match k, hk with | 0, _ => id) rfl

theorem BlockSound.after_hms (h : BlockSound b) (hp : b.pc = ⟨.decoding, 1#4⟩) :
    BlockSound { b with
      cm := { b.cm with
        second := (b.e % 60#32).setWidth 6
        minute := (b.e / 60#32 % 60#32).setWidth 6
        hour := (b.e / 3600#32 % 24#32).setWidth 5 }
      days := b.e / 86400#32
      pc := ⟨.decoding, 2#4⟩ } := by
  have he : b.e = b.raw - 18000#32 := h.decode.offset (by simp [hp])
  refine h.advance (n := 2) rfl h.months rfl (by simp [hp])
    (fun k hk => match k, hk with | 0, _ | 1, _ => id) ?_
  simp only [DecodeClause, calendar, he, ← BitVec.ofNat_toNat, BitVec.toNat_umod, BitVec.toNat_udiv,
    BitVec.toNat_ofNat, and_self]

theorem BlockSound.after_wday {w : BitVec 3} (h : BlockSound b) (hp : b.pc = ⟨.decoding, 2#4⟩)
    (hw : wdtab (b.days.toNat % 7) = some w) :
    BlockSound { b with cm := { b.cm with weekday := w }, pc := ⟨.decoding, 3#4⟩ } := by
  obtain ⟨-, -, -, hdays⟩ := h.decode.clock (by simp [hp])
  refine h.advance (n := 3) rfl h.months rfl (by simp [hp])
    (fun k hk => match k, hk with | 0, _ | 1, _ | 2, _ => id) ?_
  obtain rfl := Option.some.inj ((wdtab_eq (Nat.mod_lt _ (by decide))).symm.trans hw)
  simp [DecodeClause, calendar, hdays]

theorem BlockSound.after_yearinit (h : BlockSound b) (hp : b.pc = ⟨.decoding, 3#4⟩) :
    BlockSound { b with
      cm := { b.cm with year := 1970#16 }
      leap := isLeap 1970
      d := b.days
      leapDays := 0#8
      pc := ⟨.decoding, 4#4⟩ } :=
  h.advance (n := 4) rfl h.months rfl (by simp [hp])
    (fun k hk => match k, hk with | 0, _ | 1, _ | 2, _ | 3, _ => id)
    (by simp [DecodeClause, daysOfYears, leapYears])

/-- A YEARSTEP that subtracts stays at (Decoding,4). The days of RAW end before year 2107, so neither the year nor
LEAPDAYS wraps (R125, R129). -/
theorem BlockSound.after_nextYear (h : BlockSound b) (hp : b.pc = ⟨.decoding, 4#4⟩) (hd : ylen b.leap ≤ b.d.toNat) :
    BlockSound { nextYear b with pc := ⟨.decoding, 4#4⟩ } := by
  obtain ⟨-, -, -, hdays⟩ := h.decode.clock (by simp [hp])
  obtain ⟨hyear, hleap, hsum, hcount⟩ := h.decode.years (by simp [hp])
  refine h.advance (n := 4) rfl h.months rfl (by simp [hp])
    (fun k hk => match k, hk with | 0, _ | 1, _ | 2, _ | 3, _ => id) ?_
  obtain ⟨k, hk⟩ := Nat.exists_eq_add_of_le hyear
  rw [hk, Nat.add_sub_cancel_left] at hsum hcount
  have hbound : k < 137 := years_lt_of_word (hsum.trans hdays)
  have hnext : (b.cm.year + 1#16).toNat = 1970 + (k + 1) := by
    rw [BitVec.toNat_add, hk, BitVec.toNat_ofNat]
    omega
  have hlen := ylen_bounds b.leap
  have hlow := leapYears_le k
  have hrest : (b.d - BitVec.ofNat 32 (ylen b.leap)).toNat = b.d.toNat - ylen b.leap := by
    rw [BitVec.toNat_sub_of_le] <;> simp only [BitVec.le_def, BitVec.toNat_ofNat] <;> omega
  simp only [DecodeClause, Machine.nextYear, hnext, Nat.add_sub_cancel_left, hrest, daysOfYears, leapYears,
    ← hk, ← hleap]
  refine ⟨Nat.le_add_right _ _, trivial, by omega, ?_⟩
  split
  · rw [BitVec.toNat_add, hcount, BitVec.toNat_ofNat]
    omega
  · exact hcount

theorem BlockSound.after_yearEnd (h : BlockSound b) (hp : b.pc = ⟨.decoding, 4#4⟩) (hd : b.d.toNat < ylen b.leap) :
    BlockSound { b with pc := ⟨.decoding, 5#4⟩ } :=
  h.advance (n := 5) rfl h.months rfl (by simp [hp])
    (fun k hk => match k, hk with | 0, _ | 1, _ | 2, _ | 3, _ | 4, _ => id) hd

theorem BlockSound.after_doyset (h : BlockSound b) (hp : b.pc = ⟨.decoding, 5#4⟩) :
    BlockSound { b with cm := { b.cm with doy := (b.d + 1#32).setWidth 9 }, pc := ⟨.decoding, 6#4⟩ } := by
  have hlt : b.d.toNat < ylen b.leap := h.decode.loopEnded (by simp [hp])
  have hlen := ylen_bounds b.leap
  refine h.advance (n := 6) rfl h.months rfl (by simp [hp])
    (fun k hk => match k, hk with | 0, _ | 1, _ | 2, _ | 3, _ | 4, _ | 5, _ => id) ?_
  simp only [DecodeClause, BitVec.toNat_setWidth, BitVec.toNat_add, BitVec.toNat_ofNat]
  omega

theorem BlockSound.after_febfix (h : BlockSound b) (hp : b.pc = ⟨.decoding, 6#4⟩) :
    BlockSound { b with mdays := { b.mdays with m2 := february b.leap }, pc := ⟨.decoding, 7#4⟩ } :=
  h.advance (n := 7) rfl (MonthTable.wf_write_february _ h.months) rfl (by simp [hp])
    (fun k hk => match k, hk with | 0, _ | 1, _ | 2, _ | 3, _ | 4, _ | 5, _ | 6, _ => id) rfl

/-- At MONSCAN the scan of MDAYS finds the month of R136 for the day of the year. -/
theorem BlockSound.monthScan_eq (h : BlockSound b) (hp : b.pc = ⟨.decoding, 7#4⟩) :
    monthScan (b.cm.doy.setWidth 16) 1#4 (b.mdays.m1.setWidth 16) 0#16 (monthsAfterFirst b.mdays) =
      some (BitVec.ofNat 4 (leastMonth b.leap b.cm.doy.toNat),
        BitVec.ofNat 16 (daysThrough b.leap (leastMonth b.leap b.cm.doy.toNat)),
        BitVec.ofNat 16 (daysThrough b.leap (leastMonth b.leap b.cm.doy.toNat - 1))) := by
  have hlt : b.d.toNat < ylen b.leap := h.decode.loopEnded (by simp [hp])
  have hdoy : b.cm.doy.toNat = b.d.toNat + 1 := h.decode.dayOfYear (by simp [hp])
  have hfeb : b.mdays.m2 = february b.leap := h.decode.february (by simp [hp])
  have hwide : (b.cm.doy.setWidth 16).toNat = b.cm.doy.toNat := by
    rw [BitVec.toNat_setWidth]
    have := b.cm.doy.isLt
    omega
  have hscan := monthScan_eq_leastMonth b.leap (doy := b.cm.doy.setWidth 16)
    (by rw [hwide, hdoy, daysThrough_twelve]; exact hlt)
  rwa [hwide, ← hfeb, ← MonthTable.eq_withFebruary h.months] at hscan

/-- MONSCAN completes the moment: the record is the calendar of RAW (R130, R136). -/
theorem BlockSound.after_monscan {m : BitVec 4} {cum prev : BitVec 16} (h : BlockSound b) (hp : b.pc = ⟨.decoding, 7#4⟩)
    (hscan : monthScan (b.cm.doy.setWidth 16) 1#4 (b.mdays.m1.setWidth 16) 0#16 (monthsAfterFirst b.mdays) =
      some (m, cum, prev)) :
    BlockSound { b with
      m := m, cum := cum, prev := prev
      cm := { b.cm with month := m, date := (b.cm.doy.setWidth 16 - prev).setWidth 5 }
      pc := ⟨.rendering, 0#4⟩ } := by
  obtain ⟨hsec, hmin, hhour, hdays⟩ := h.decode.clock (by simp [hp])
  have hwd := h.decode.weekday (by simp [hp])
  obtain ⟨hyear, hleap, hsum, -⟩ := h.decode.years (by simp [hp])
  have hlt : b.d.toNat < ylen b.leap := h.decode.loopEnded (by simp [hp])
  have hdoy : b.cm.doy.toNat = b.d.toNat + 1 := h.decode.dayOfYear (by simp [hp])
  refine h.advance (n := 8) rfl h.months rfl (by simp [hp])
    (fun k hk => match k, hk with | 0, _ | 1, _ | 2, _ | 3, _ | 4, _ | 5, _ | 6, _ | 7, _ => id) ?_
  obtain ⟨k, hk⟩ := Nat.exists_eq_add_of_le hyear
  rw [hk, Nat.add_sub_cancel_left] at hsum
  rw [hk] at hleap
  have hloop := yearLoop_of_days (hsum.trans hdays) (hleap ▸ hlt)
  rw [h.monthScan_eq hp] at hscan
  obtain ⟨rfl, -, rfl⟩ : _ = m ∧ _ = cum ∧ _ = prev := by simpa using hscan
  have hbefore := daysThrough_before_leastMonth (leap := b.leap) (doy := b.cm.doy.toNat) (by omega)
    (by rw [daysThrough_twelve]; omega)
  simp only [DecodeClause, calendar, hloop, ← hleap, ← hdoy, Moment.mk.injEq]
  refine ⟨?_, trivial, ?_, hhour, hmin, hsec, ?_, ?_⟩
  · rw [← hk, BitVec.ofNat_toNat, BitVec.setWidth_eq]
  · apply BitVec.eq_of_toNat_eq
    have hdoyLt := b.cm.doy.isLt
    simp only [BitVec.toNat_setWidth, BitVec.toNat_sub, BitVec.toNat_ofNat]
    omega
  · rw [hwd, calendar]
  · rw [BitVec.ofNat_toNat, BitVec.setWidth_eq]

/-- The steps of Rendering keep the moment. -/
theorem BlockSound.after_rendering {j k : BitVec 4} (h : BlockSound b) (hp : b.pc = ⟨.rendering, j⟩)
    (hk : k.toNat ≤ 5) : BlockSound { b with pc := ⟨.rendering, k⟩ } :=
  h.advance (n := 8) (decide_eq_true hk) h.months rfl (by simp [hp])
    (fun k hk => match k, hk with | 0, _ | 1, _ | 2, _ | 3, _ | 4, _ | 5, _ | 6, _ | 7, _ => id)
    (h.decode.moment (by simp [hp]))

end Sys2Proof.Machine
end

section
/-! PROOFS. Every step keeps `Consistent`: one rule per update of the state, one lemma per operation and per move, and
their assembly along `takeLine` and `step`. -/

namespace Sys2Proof.Machine

variable {s t : State}

/-! ## What the updates of the state ask for -/

namespace Consistent

theorem block (h : Consistent s) : BlockSound s.blk := ⟨h.listed, h.months, h.decode⟩

theorem withPort {p : Port} (h : Consistent s) : Consistent (s.withPort p) := { h with }
theorem withEdge {e : Edge} (h : Consistent s) : Consistent (s.withEdge e) := { h with }
theorem withSched {ls : List Line} (h : Consistent s) : Consistent (s.withSched ls) := { h with }
theorem drawn {n : Nat} (h : Consistent s) : Consistent (s.drawn n) := { h with }
theorem answer {r : Res} (h : Consistent s) : Consistent (s.answer r) := h.withPort

theorem withSide {x : HostSide} (h : Consistent s) (hx : x.displayReady = true ↔ x.sinkInit = some .ok) :
    Consistent (s.withSide x) := { h with display := hx }

theorem withBlk {b : Block} (h : Consistent s) (hb : BlockSound b) : Consistent (s.withBlk b) :=
  { h with listed := hb.listed, months := hb.months, decode := hb.decode }

theorem withCri {c : Cri} (h : Consistent s) (hpresc : c.presc.toNat < 2 ^ s.cfg.prescW)
    (hlock : s.cri.bkpwe = true → c.bkpwe = true) (hie : c.tickie = c.alrie)
    (hosc : c.osc = .none → s.cri.osc = .none) : Consistent (s.withCri c) :=
  { h with
    prescaler := hpresc, unlocked := fun hp => hlock (h.unlocked hp), enables := hie
    oscillator := fun ho => h.oscillator (hosc ho) }

theorem withBoot {b : Boot} (h : Consistent s) (hlock : pastUnlock b.pos = true → s.cri.bkpwe = true)
    (hwait : b.pos = .step 5 → s.cfg.oscSource = .external → b.polls < s.cfg.oscWaitIters) :
    Consistent (s.withBoot b) := { h with unlocked := hlock, wait := hwait }

/-- HOST's position outside the ready-wait asks for the open lock only. -/
theorem hostGoto {p : HostPos} (h : Consistent s) (hlock : s.cri.bkpwe = true) (hp : p ≠ .step 5) :
    Consistent (s.hostGoto p) := h.withBoot (fun _ => hlock) fun hq => absurd hq hp

/-- SEQ's write of the block with the successor that the operation gives. -/
theorem writeGoto {b : Block} {st : SeqState} {k : BitVec 4} (h : Consistent s)
    (hb : BlockSound { b with pc := ⟨st, k⟩ }) : Consistent ((s.withBlk b).goto st k) := h.withBlk hb

theorem goto {st : SeqState} {k : BitVec 4} (h : Consistent s) (hb : BlockSound { s.blk with pc := ⟨st, k⟩ }) :
    Consistent (s.goto st k) := h.withBlk hb

/-- Outside Decoding and Rendering SEQ's successor needs no more than to be listed. -/
theorem gotoOutside {st : SeqState} {k : BitVec 4} (h : Consistent s) (hl : listedPc ⟨st, k⟩ = true)
    (h0 : decodeStage ⟨st, k⟩ = 0) : Consistent (s.goto st k) := h.goto (.outside hl h.months h0)

theorem returnToIdle (h : Consistent s) : Consistent (returnToIdle s) := h.gotoOutside rfl rfl

theorem counterRead (h : Consistent s) : Consistent (counterRead s) := by
  rw [counterRead_eq]
  exact h.drawn

theorem prescW_le (h : Consistent s) : s.cfg.prescW ≤ 32 := by
  have hp := h.params
  simp only [Params.wf, Bool.and_eq_true, decide_eq_true_eq] at hp
  omega

theorem oscWaitIters_pos (h : Consistent s) : 0 < s.cfg.oscWaitIters := by
  have hp := h.params
  simp only [Params.wf, Bool.and_eq_true, decide_eq_true_eq] at hp
  omega

/-- RSTBKP and ENV.BACKUP_LOSS clear the enables together, and OSC together with OSC_READY (R243, R245). -/
theorem loseBackup (h : Consistent s) : Consistent (loseBackup s) where
  params := h.params
  listed := h.listed
  months := h.months
  prescaler := truncTo_lt h.prescW_le _
  unlocked := h.unlocked
  enables := rfl
  oscillator := fun _ => rfl
  wait := h.wait
  display := h.display
  decode := h.decode

/-- A system reset locks the domain and puts HOST before UNLOCKBKP (R240). -/
theorem systemReset (h : Consistent s) (por pin : Bool) : Consistent (systemReset por pin s) where
  params := h.params
  listed := rfl
  months := resetBlock_mdays_wf s
  prescaler := h.prescaler
  unlocked := fun hp => by simp [pastUnlock] at hp
  enables := h.enables
  oscillator := h.oscillator
  wait := fun hp => by simp at hp
  display := by simp [resetSide]
  decode := (BlockSound.outside (b := resetBlock s) rfl (resetBlock_mdays_wf s) rfl).decode

end Consistent

/-! ## Outcomes -/

/-- If the outcome is a next state, it is a consistent one. -/
def EndsConsistent (o : Host.Outcome State Fault Refusal) : Prop := ∀ t, o = .next t → Consistent t

namespace EndsConsistent

theorem next (h : Consistent t) : EndsConsistent (.next t) := fun _ e => Host.Outcome.next.inj e ▸ h

theorem fault (f : Fault) : EndsConsistent (.fault f) := fun _ e => by simp at e

theorem refused (r : Refusal) : EndsConsistent (.refused r) := fun _ e => by simp at e

theorem atSeq {st : SeqState} {k : BitVec 4} {f : State → State} (h : s.blk.pc = ⟨st, k⟩ → Consistent (f s)) :
    EndsConsistent (s.atSeq st k f) := fun _ e => by
  obtain ⟨⟨-, hp⟩, rfl⟩ := atSeq_next e
  exact h hp

theorem atHost {p : HostPos} {f : State → State} (h : s.boot.pos = p → Consistent (f s)) :
    EndsConsistent (s.atHost p f) := fun _ e => by
  obtain ⟨⟨-, hp⟩, rfl⟩ := atHost_next e
  exact h hp

/-- A backup-domain write of HOST runs in its place with the lock open. -/
theorem unlockedAtHost {p : HostPos} {f : State → State} (h : s.cri.bkpwe = true → Consistent (f s)) :
    EndsConsistent (s.whenUnlocked (s.atHost p f)) := fun _ e => by
  obtain ⟨hlock, e⟩ := whenUnlocked_next e
  obtain ⟨-, rfl⟩ := atHost_next e
  exact h hlock

end EndsConsistent

section
open EndsConsistent

/-! ## The counter read and the decoder -/

theorem execRdh_consistent (h : Consistent s) : EndsConsistent (execRdh s) := by
  unfold execRdh
  split_ifs
  · exact next (.writeGoto h.counterRead.answer (.outside rfl h.months rfl))
  · exact next (.writeGoto h.counterRead.answer (.outside (by dsimp only; split <;> rfl) h.months rfl))
  · exact refused _

theorem execRdl_consistent (h : Consistent s) : EndsConsistent (execRdl s) := by
  unfold execRdl
  split_ifs
  · exact next (.writeGoto h.counterRead.answer (.outside rfl h.months rfl))
  · exact next (.writeGoto h.counterRead.answer (.outside rfl h.months rfl))
  · exact refused _

/-- Decoding begins with nothing decoded, so RAW may be anything. -/
theorem execAsm32_consistent (h : Consistent s) : EndsConsistent (execAsm32 s) :=
  atSeq fun _ => .answer (.writeGoto h (.outside rfl h.months rfl))

theorem execTzsub_consistent (h : Consistent s) : EndsConsistent (execTzsub s) :=
  atSeq fun hp => .answer (.writeGoto h (h.block.after_tzsub hp))

theorem execHms_consistent (h : Consistent s) : EndsConsistent (execHms s) :=
  atSeq fun hp => .answer (.writeGoto h (h.block.after_hms hp))

theorem execWday_consistent (h : Consistent s) : EndsConsistent (execWday s) := by
  unfold execWday
  split
  next hp =>
    split
    next w hw => exact next (.answer (.writeGoto h (h.block.after_wday hp.2 hw)))
    next => exact fault _
  next => exact refused _

theorem execYearinit_consistent (h : Consistent s) : EndsConsistent (execYearinit s) :=
  atSeq fun hp => .answer (.writeGoto h (h.block.after_yearinit hp))

theorem execYearstep_consistent (h : Consistent s) : EndsConsistent (execYearstep s) := by
  refine atSeq fun hp => .answer ?_
  split
  next hd => exact .writeGoto h (h.block.after_nextYear hp hd)
  next hd => exact .goto h (h.block.after_yearEnd hp (Nat.lt_of_not_le hd))

theorem execDoyset_consistent (h : Consistent s) : EndsConsistent (execDoyset s) :=
  atSeq fun hp => .answer (.writeGoto h (h.block.after_doyset hp))

theorem execFebfix_consistent (h : Consistent s) : EndsConsistent (execFebfix s) :=
  atSeq fun hp => .answer (.writeGoto h (h.block.after_febfix hp))

theorem execMonscan_consistent (h : Consistent s) : EndsConsistent (execMonscan s) := by
  unfold execMonscan
  split
  next hp =>
    dsimp only
    split
    next hscan => exact next (.answer (.writeGoto h (h.block.after_monscan hp.2 hscan)))
    next => exact fault _
  next => exact refused _

/-! ## The dispatcher, the display and the pins -/

theorem execRdflags_consistent (h : Consistent s) : EndsConsistent (execRdflags s) := by
  refine atSeq fun _ => .answer ?_
  split_ifs
  · exact h.gotoOutside rfl rfl
  · exact h.gotoOutside rfl rfl
  · exact h.returnToIdle

theorem execDsprdy_consistent (h : Consistent s) : EndsConsistent (execDsprdy s) := by
  refine atSeq fun hp => ?_
  have hr : Consistent ((s.withBlk { s.blk with ready := s.side.displayReady }).answer (flagRes s.side.displayReady)) :=
    .answer (.withBlk h (.outside h.listed h.months (by rw [hp]; rfl)))
  dsimp only
  split_ifs
  · exact hr.gotoOutside rfl rfl
  · exact hr.gotoOutside rfl rfl

theorem execClrtick_consistent (h : Consistent s) : EndsConsistent (execClrtick s) := by
  have hc : Consistent ((s.withCri (clearTick s.cri)).answer .none) :=
    .answer (.withCri h h.prescaler id h.enables id)
  unfold execClrtick
  split_ifs
  · exact next (hc.gotoOutside rfl rfl)
  · exact next hc.returnToIdle
  · exact next hc.returnToIdle
  · exact refused _

theorem execClralr_consistent (h : Consistent s) : EndsConsistent (execClralr s) :=
  atSeq fun _ => .returnToIdle (.answer (.withCri h h.prescaler id h.enables id))

theorem execClrbuf_consistent (h : Consistent s) : EndsConsistent (execClrbuf s) :=
  atSeq fun hp => .answer (.goto (.withSide h h.display) (h.block.after_rendering hp (by decide)))

theorem execDrawtext_consistent (h : Consistent s) (pos : Pos) (text : Text) :
    EndsConsistent (execDrawtext pos text s) := by
  unfold execDrawtext
  split
  next hp =>
    obtain ⟨k, hpc, hk⟩ : ∃ k, s.blk.pc = ⟨.rendering, k⟩ ∧ (k + 1#4).toNat ≤ 5 := by
      rcases hp with ⟨-, hp⟩ | ⟨-, hp⟩ | ⟨-, hp⟩ <;> exact ⟨_, hp, by decide⟩
    rw [hpc]
    exact next (.answer (.goto (.withSide h h.display) (h.block.after_rendering hpc hk)))
  next => exact refused _

theorem execCommit_consistent (h : Consistent s) : EndsConsistent (execCommit s) := by
  refine atSeq fun hp => ?_
  have hc : Consistent ((s.withSide { s.side with panel := s.side.dbuf }).answer .none) :=
    .answer (.withSide h h.display)
  dsimp only
  split
  · exact hc.goto (h.block.after_rendering hp (by decide))
  · exact hc.returnToIdle

/-- A pin's level is no part of the display's state. -/
theorem setLevel_display (x : HostSide) (pin : Pin) (level : Bool) :
    (setLevel x pin level).displayReady = x.displayReady ∧ (setLevel x pin level).sinkInit = x.sinkInit := by
  cases pin <;> exact ⟨rfl, rfl⟩

theorem execSetlvl_consistent (h : Consistent s) (pin : Pin) (level : Bool) :
    EndsConsistent (execSetlvl pin level s) := by
  obtain ⟨hready, hinit⟩ := setLevel_display s.side pin level
  have hc : Consistent ((s.withSide (setLevel s.side pin level)).answer .none) :=
    .answer (.withSide h (by rw [hready, hinit]; exact h.display))
  unfold execSetlvl
  split_ifs
  · exact next (hc.gotoOutside rfl rfl)
  · exact next hc.withEdge
  · exact refused _

theorem execRdlvl_consistent (h : Consistent s) (pin : Pin) : EndsConsistent (execRdlvl pin s) := by
  unfold execRdlvl
  split_ifs
  · exact next h.withEdge.answer
  · exact refused _

theorem execLog_consistent (h : Consistent s) (notice : Notice) : EndsConsistent (execLog notice s) := by
  have hc : Consistent ((s.withSide { s.side with logs := s.side.logs ++ [notice] }).answer .none) :=
    .answer (.withSide h h.display)
  unfold execLog
  dsimp only
  split
  · exact next (hc.gotoOutside rfl rfl)
  · split
    · cases notice with
      | oscTimeout =>
        dsimp only
        split
        next hp => exact next (hc.hostGoto (h.unlocked (by rw [hp]; rfl)) (by decide))
        next => exact refused _
      | alarmFired => exact refused _
      | displayInit outcome =>
        dsimp only
        split
        · exact next hc
        · exact refused _
    · exact refused _

/-! ## INIT -/

theorem execUnlockbkp_consistent (h : Consistent s) : EndsConsistent (execUnlockbkp s) :=
  atHost fun _ => .answer (.hostGoto (.withCri h h.prescaler (fun _ => rfl) h.enables id) rfl (by decide))

theorem execRstcause_consistent (h : Consistent s) : EndsConsistent (execRstcause s) :=
  atHost fun hp => .answer (.withBoot h (fun _ => h.unlocked (by rw [hp]; rfl)) fun hq => by simp at hq)

theorem execRdsent_consistent (h : Consistent s) : EndsConsistent (execRdsent s) := by
  refine atHost fun hp => .answer (.withBoot h (fun _ => h.unlocked (by rw [hp]; rfl)) fun hq => ?_)
  dsimp only at hq
  split at hq <;> simp at hq

theorem execRstbkp_consistent (h : Consistent s) : EndsConsistent (execRstbkp s) :=
  unlockedAtHost fun hlock => .answer (.hostGoto h.loseBackup hlock (by decide))

theorem oscOf_ne_none (source : OscSource) : oscOf source ≠ .none := by cases source <;> decide

theorem execSelosc_consistent (h : Consistent s) (source : OscSource) : EndsConsistent (execSelosc source s) :=
  unlockedAtHost fun hlock =>
    .answer (.withBoot (.withCri h h.prescaler id h.enables fun ho => absurd ho (oscOf_ne_none source))
      (fun _ => hlock) fun _ _ => h.oscWaitIters_pos)

/-- After a poll the ready-wait with the external source is over or still within its bound (R187). -/
theorem afterPoll_wait (h : Consistent s) (hp : s.boot.pos = .step 5) (r : Bool) (hq : (afterPoll s r).pos = .step 5)
    (hext : s.cfg.oscSource = .external) : (afterPoll s r).polls < s.cfg.oscWaitIters := by
  have hlt := h.wait hp hext
  cases r with
  | true => simp [afterPoll] at hq
  | false =>
    simp only [afterPoll, hext, Bool.false_eq_true, if_false] at hq ⊢
    have hne : s.boot.polls + 1 ≠ s.cfg.oscWaitIters := fun e => by simp [e] at hq
    omega

theorem execOscrdy_consistent (h : Consistent s) : EndsConsistent (execOscrdy s) :=
  atHost fun hp => .answer (.withBoot h (fun _ => h.unlocked (by rw [hp]; rfl)) (afterPoll_wait h hp _))

theorem execCfgpre_consistent (h : Consistent s) (divisor : Word) : EndsConsistent (execCfgpre divisor s) :=
  unlockedAtHost fun hlock =>
    .answer (.hostGoto (.withCri h (truncTo_lt h.prescW_le _) id h.enables id) hlock (by decide))

theorem execSetcnt_consistent (h : Consistent s) (value : Word) : EndsConsistent (execSetcnt value s) :=
  unlockedAtHost fun hlock => .answer (.hostGoto (.withCri h h.prescaler id h.enables id) hlock (by decide))

theorem execSetalr_consistent (h : Consistent s) (value : Word) : EndsConsistent (execSetalr value s) :=
  unlockedAtHost fun hlock => .answer (.hostGoto (.withCri h h.prescaler id h.enables id) hlock (by decide))

theorem execEnirq_consistent (h : Consistent s) : EndsConsistent (execEnirq s) :=
  unlockedAtHost fun hlock => .answer (.hostGoto (.withCri h h.prescaler id rfl id) hlock (by decide))

theorem execReghandler_consistent (h : Consistent s) : EndsConsistent (execReghandler s) :=
  atHost fun hp => .answer (.hostGoto (.withSide h h.display) (h.unlocked (by rw [hp]; rfl)) (by decide))

theorem execWrsent_consistent (h : Consistent s) (value : Half) : EndsConsistent (execWrsent value s) :=
  unlockedAtHost fun hlock => .answer (.hostGoto (.withCri h h.prescaler id h.enables id) hlock (by decide))

theorem execWaitsync_consistent (h : Consistent s) : EndsConsistent (execWaitsync s) := by
  unfold execWaitsync
  split_ifs with hclear hwait
  · exact next (.answer (.hostGoto (.withCri h h.prescaler id h.enables id) (h.unlocked (by rw [hclear.2]; rfl))
      (by decide)))
  · exact next (.answer (.hostGoto h (h.unlocked (by rw [hwait.2]; rfl)) (by decide)))
  · exact next h.answer
  · exact refused _

/-! ## The dispatcher of the operations, and the agents -/

theorem exec_consistent (h : Consistent s) (i : Instr) : EndsConsistent (exec i s) := by
  cases i with
  | rdh => exact execRdh_consistent h
  | rdl => exact execRdl_consistent h
  | cfgpre divisor => exact execCfgpre_consistent h divisor
  | setcnt value => exact execSetcnt_consistent h value
  | setalr value => exact execSetalr_consistent h value
  | enirq => exact execEnirq_consistent h
  | clrtick => exact execClrtick_consistent h
  | clralr => exact execClralr_consistent h
  | rdsent => exact execRdsent_consistent h
  | wrsent value => exact execWrsent_consistent h value
  | rstbkp => exact execRstbkp_consistent h
  | selosc source => exact execSelosc_consistent h source
  | waitsync => exact execWaitsync_consistent h
  | unlockbkp => exact execUnlockbkp_consistent h
  | rstcause => exact execRstcause_consistent h
  | oscrdy => exact execOscrdy_consistent h
  | reghandler => exact execReghandler_consistent h
  | rdflags => exact execRdflags_consistent h
  | dsprdy => exact execDsprdy_consistent h
  | clrbuf => exact execClrbuf_consistent h
  | drawtext pos text => exact execDrawtext_consistent h pos text
  | commit => exact execCommit_consistent h
  | setlvl pin level => exact execSetlvl_consistent h pin level
  | rdlvl pin => exact execRdlvl_consistent h pin
  | log notice => exact execLog_consistent h notice
  | asm32 => exact execAsm32_consistent h
  | tzsub => exact execTzsub_consistent h
  | hms => exact execHms_consistent h
  | wday => exact execWday_consistent h
  | yearinit => exact execYearinit_consistent h
  | yearstep => exact execYearstep_consistent h
  | doyset => exact execDoyset_consistent h
  | febfix => exact execFebfix_consistent h
  | monscan => exact execMonscan_consistent h

/-- Any agent may issue any word: the ports are no part of consistency. -/
theorem issueWord_consistent (h : Consistent s) (agent : Agent) (word : Byte) (arg : Arg) :
    EndsConsistent (issueWord agent word arg s) := by
  unfold issueWord
  split
  · exact exec_consistent h.withPort _
  · exact refused _

theorem issue_consistent (h : Consistent s) (agent : Agent) (i : Instr) : EndsConsistent (issue agent i s) :=
  issueWord_consistent h agent _ _

theorem seqMove_consistent (h : Consistent s) : EndsConsistent (seqMove s) := by
  unfold seqMove
  split_ifs
  · exact next (h.gotoOutside rfl rfl)
  · exact next h
  · split
    · exact issue_consistent h .seq _
    · exact fault _

theorem hostMove_consistent (h : Consistent s) : EndsConsistent (hostMove s) := by
  unfold hostMove
  split
  · exact issue_consistent h .host _
  · exact next h

theorem edgeMove_consistent (h : Consistent s) : EndsConsistent (edgeMove s) := by
  unfold edgeMove
  split
  · split
    · exact issue_consistent h .edge _
    · exact next h
  · exact next h

/-! ## The steps without operation code -/

theorem displayFailed_consistent (h : Consistent s) : EndsConsistent (displayFailed s) := by
  unfold displayFailed
  split
  next hnone =>
    have hready : s.side.displayReady = false := by simpa [hnone] using h.display
    exact issue_consistent (.withSide h (by simp [hready])) .host _
  next => exact next h

theorem displayNotice_consistent (h : Consistent s) : EndsConsistent (displayNotice s) := by
  unfold displayNotice
  split
  · exact issue_consistent h .host _
  · exact next h

theorem displayUp_consistent (h : Consistent s) : Consistent (displayUp s) := by
  unfold displayUp
  split
  · exact h
  · exact h.withSide (by simp)

theorem ctrInc_consistent (h : Consistent s) : Consistent (ctrInc s) := by
  unfold ctrInc
  split
  · exact h.withCri h.prescaler id h.enables id
  · exact h

theorem ctrSync_consistent (h : Consistent s) : Consistent (ctrSync s) := h.withCri h.prescaler id h.enables id

theorem envEdge_consistent (h : Consistent s) : Consistent (envEdge s) := .drawn (.withSide h.withEdge h.display)

theorem envOsc_consistent (h : Consistent s) : Consistent (envOsc s) := by
  unfold envOsc
  split
  next => exact h
  next hosc => exact { h with oscillator := fun ho => absurd ho hosc }

theorem takeMove_consistent (h : Consistent s) (m : Move) : EndsConsistent (takeMove m s) := by
  cases m with
  | seq => exact seqMove_consistent h
  | host => exact hostMove_consistent h
  | edge => exact edgeMove_consistent h
  | displayFailed => exact displayFailed_consistent h
  | displayNotice => exact displayNotice_consistent h
  | ctrInc => exact next (ctrInc_consistent h)
  | ctrSync => exact next (ctrSync_consistent h)
  | displayUp => exact next (displayUp_consistent h)
  | reset por pin => exact next (h.systemReset por pin)
  | backupLoss por pin => exact next (h.loseBackup.systemReset por pin)
  | envEdge => exact next (envEdge_consistent h)
  | envOsc => exact next (envOsc_consistent h)

theorem takeLine_consistent (h : Consistent s) (l : Line) : EndsConsistent (takeLine l s) := by
  cases l with
  | move m => exact takeMove_consistent h m
  | op agent word arg => exact issueWord_consistent h agent word arg

theorem lineTaken_consistent (h : Consistent s) : Consistent (lineTaken s) := by
  unfold lineTaken
  split
  · exact h.withSched
  · exact h.drawn

end

/-- Settles O46: each line of the trace is a move or an issued word, and each of them keeps consistency. -/
theorem stepKeepsConsistency : Obligations.StepKeepsConsistency :=
  fun s _ h e => takeLine_consistent (lineTaken_consistent h) (nextLine s) _ e

/-! ## Idle turns -/

theorem hostMove_idle (h : hostInstr s = none) : hostMove s = .next s := by simp [hostMove, h]

theorem edgeMove_idle (h : edgeInstr s = none) : edgeMove s = .next s := by simp [edgeMove, h]

theorem edgeMove_kept_out (h : ¬ s.edgeMay) : edgeMove s = .next s := if_neg h

/-- Settles O40: HOST past INIT and EDGE at rest with no event have no operation to issue, and EDGE may not issue one
where R219 keeps it out. -/
theorem idleTurnsChangeNothing : Obligations.IdleTurnsChangeNothing := by
  refine fun s => ⟨fun hdone => ?_, fun hrest hruns => ?_, fun hpre hpc => ?_⟩
  · exact hostMove_idle (by simp [hostInstr, hdone])
  · exact edgeMove_idle (by simp [edgeInstr, hrest, hruns])
  · exact edgeMove_kept_out (by simp [hpre, hpc])

end Sys2Proof.Machine
end

section
/-! PROOFS. The calendar of 41_decoder R136 is the proleptic Gregorian one (R132): each field of the record in terms of the
seconds that the decoder works on, and the ranges of R30. -/

namespace Sys2Proof.Machine

/-! ## The days of the year -/

/-- Every day count lies in exactly one year: the whole years before it, and less than the length of that year. -/
theorem exists_year_of_days (n : Nat) : ∃ k d, daysOfYears k + d = n ∧ d < ylen (isLeap (1970 + k)) := by
  induction n with
  | zero => exact ⟨0, 0, rfl, by decide⟩
  | succ n ih =>
    obtain ⟨k, d, hn, hd⟩ := ih
    obtain hlast | hin : d + 1 = ylen (isLeap (1970 + k)) ∨ d + 1 < ylen (isLeap (1970 + k)) := by omega
    · have hpos := (ylen_bounds (isLeap (1970 + (k + 1)))).1
      exact ⟨k + 1, 0, by simp only [daysOfYears]; omega, by omega⟩
    · exact ⟨k, d + 1, by omega, hin⟩

/-- The days up to the end of a month are those up to its beginning and its own. -/
theorem daysThrough_pred (leap : Bool) {m : Nat} (h : 1 ≤ m) :
    daysThrough leap m = daysThrough leap (m - 1) + monthLen leap m := by
  obtain ⟨k, rfl⟩ := Nat.exists_eq_add_of_le' h
  rfl

/-- A day of the year lies in the month that R136 names: past the months before it, and within its length. -/
theorem day_in_leastMonth {leap : Bool} {doy : Nat} (hpos : 1 ≤ doy) (h : doy ≤ ylen leap) :
    daysThrough leap (leastMonth leap doy - 1) < doy ∧
      doy ≤ daysThrough leap (leastMonth leap doy - 1) + monthLen leap (leastMonth leap doy) := by
  rw [← daysThrough_twelve] at h
  obtain ⟨hmonth, -, hreach, -⟩ := leastMonth_spec h
  exact ⟨daysThrough_before_leastMonth hpos h, daysThrough_pred leap hmonth ▸ hreach⟩

/-! ## The fields of the calendar -/

/-- The year and the day of the year split the days of `v` (R136); neither is cut by its register. -/
theorem calendar_year_doy (v : Word) : ∃ k d, daysOfYears k + d = (v - 18000#32).toNat / 86400 ∧
    d < ylen (isLeap (1970 + k)) ∧ k < 137 ∧ (calendar v).year.toNat = 1970 + k ∧ (calendar v).doy.toNat = d + 1 := by
  obtain ⟨k, d, hsum, hd⟩ := exists_year_of_days ((v - 18000#32).toNat / 86400)
  have hk := years_lt_of_word hsum
  have hlen := ylen_bounds (isLeap (1970 + k))
  refine ⟨k, d, hsum, hd, hk, ?_, ?_⟩ <;>
    simp only [calendar, yearLoop_of_days hsum hd, BitVec.toNat_ofNat] <;> omega

/-- The month and the date, from the year and the day of the year. -/
theorem calendar_month_date (v : Word) :
    (calendar v).month.toNat = leastMonth (isLeap (calendar v).year.toNat) (calendar v).doy.toNat ∧
      (calendar v).date.toNat = (calendar v).doy.toNat -
        daysThrough (isLeap (calendar v).year.toNat) ((calendar v).month.toNat - 1) := by
  obtain ⟨k, d, hsum, hd, -, hyear, hdoy⟩ := calendar_year_doy v
  have hle : d + 1 ≤ ylen (isLeap (1970 + k)) := hd
  obtain ⟨-, hlast, -, -⟩ := leastMonth_spec (hle.trans_eq (daysThrough_twelve _).symm)
  obtain ⟨-, hwithin⟩ := day_in_leastMonth (by omega) hle
  have hlen := monthLen_le (isLeap (1970 + k)) (leastMonth (isLeap (1970 + k)) (d + 1))
  have hmonth : (calendar v).month.toNat = leastMonth (isLeap (1970 + k)) (d + 1) := by
    simp only [calendar, yearLoop_of_days hsum hd, BitVec.toNat_ofNat]
    omega
  rw [hyear, hdoy]
  refine ⟨hmonth, ?_⟩
  rw [hmonth]
  simp only [calendar, yearLoop_of_days hsum hd, BitVec.toNat_ofNat]
  omega

/-- The clock and the weekday, from the seconds. -/
theorem calendar_clock (v : Word) {e : Nat} (he : e = (v - 18000#32).toNat) :
    (calendar v).hour.toNat = e / 3600 % 24 ∧ (calendar v).minute.toNat = e / 60 % 60 ∧
      (calendar v).second.toNat = e % 60 ∧ (calendar v).weekday.toNat = (e / 86400 + 4) % 7 := by
  subst he
  refine ⟨?_, ?_, ?_, ?_⟩ <;> simp only [calendar, BitVec.toNat_ofNat] <;> omega

/-- Days and clock time put a number of seconds together again. -/
theorem seconds_split (e : Nat) : e = 86400 * (e / 86400) + 3600 * (e / 3600 % 24) + 60 * (e / 60 % 60) + e % 60 := by
  omega

/-- TZSUB's difference in natural numbers (R121). -/
theorem sub_18000_toNat (v : Word) : (v - 18000#32).toNat = (v.toNat + (2 ^ 32 - 18000)) % 2 ^ 32 := by
  rw [BitVec.toNat_sub, Nat.add_comm]
  rfl

/-- Settles O58: the days of the corrected value fall into one year, and the day of that year into one month, so that the
fields of the record are the Gregorian ones. -/
theorem calendarIsGregorian : Obligations.CalendarIsGregorian := by
  intro v e leap cm hcm he hleap
  subst hcm
  rw [← sub_18000_toNat] at he
  obtain ⟨k, d, hsum, hd, hk, hyear, hdoy⟩ := calendar_year_doy v
  obtain ⟨hmonth, hdate⟩ := calendar_month_date v
  obtain ⟨hhour, hminute, hsecond, hweekday⟩ := calendar_clock v he
  have hle : (calendar v).doy.toNat ≤ ylen (isLeap (calendar v).year.toNat) := by rw [hdoy, hyear]; exact hd
  have hlen : ylen (isLeap (calendar v).year.toNat) = 365 + leap := by rw [hleap, ylen]; split <;> rfl
  obtain ⟨hfirst, hlast, -, -⟩ := leastMonth_spec (hle.trans_eq (daysThrough_twelve _).symm)
  obtain ⟨hbefore, hwithin⟩ := day_in_leastMonth (by omega) hle
  rw [← hmonth] at hfirst hlast hbefore hwithin
  have hsplit := seconds_split e
  have hdays : daysOfYears ((calendar v).year.toNat - 1970) + ((calendar v).doy.toNat - 1) = e / 86400 := by
    rw [hyear, hdoy, Nat.add_sub_cancel_left, Nat.add_sub_cancel, hsum, he]
  rw [hdays]
  refine ⟨by omega, by omega, hfirst, hlast, ?_, ?_, ?_, ?_, ?_, hweekday, ?_, ?_, ?_, ?_⟩ <;> omega

end Sys2Proof.Machine
end

section
/-! PROOFS. Who writes the registers of 10_state R40: what each coded operation leaves in the Counter Register Interface, and
that none touches what HOST and the environment alone write. -/

namespace Sys2Proof.Machine

/-! ## The registers an operation can find and leave -/

/-- What R40, R48, R51 and R8 give the machine besides the block, the display lists, the pins and the positions of the
agents. -/
structure Registers where
  cri : Cri
  displayReady : Bool
  sinkInit : Option InitOutcome
  por : Bool
  pinrst : Bool
  cfg : Params

/-- The registers of a state. -/
def State.registers (s : State) : Registers :=
  { cri := s.cri, displayReady := s.side.displayReady, sinkInit := s.side.sinkInit, por := s.env.por,
    pinrst := s.env.pinrst, cfg := s.cfg }

/-- The Counter Register Interface after an operation in its place: one line per operation that writes it, and the write
that it makes (R78). -/
def criAfter (i : Instr) (s : State) : Cri :=
  match i with
  | .cfgpre divisor => { s.cri with presc := truncTo s.cfg.prescW divisor }
  | .setcnt value => { s.cri with cnt := value }
  | .setalr value => { s.cri with alarm := value }
  | .enirq => { s.cri with tickie := true, alrie := true }
  | .clrtick => clearTick s.cri
  | .clralr => clearAlarm s.cri
  | .wrsent value => { s.cri with sent := value }
  | .rstbkp => (loseBackup s).cri
  | .selosc source => { s.cri with osc := oscOf source }
  | .waitsync => { s.cri with rsf := if s.boot.pos = .step 12 then false else s.cri.rsf }
  | .unlockbkp => { s.cri with bkpwe := true }
  | .rdh | .rdl | .rdsent | .rstcause | .oscrdy | .reghandler | .rdflags | .dsprdy | .clrbuf | .drawtext _ _ | .commit
  | .setlvl _ _ | .rdlvl _ | .log _ | .asm32 | .tzsub | .hms | .wday | .yearinit | .yearstep | .doyset | .febfix
  | .monscan => s.cri

/-- If the outcome is a next state, its registers are those of `s` with `c` for the Counter Register Interface. -/
def LeavesCri (s : State) (c : Cri) (o : Host.Outcome State Fault Refusal) : Prop :=
  ∀ t, o = .next t → t.registers = { s.registers with cri := c }

variable {s t : State} {c : Cri}

namespace LeavesCri

theorem next (h : t.registers = { s.registers with cri := c }) : LeavesCri s c (.next t) :=
  fun _ e => Host.Outcome.next.inj e ▸ h

theorem fault (f : Fault) : LeavesCri s c (.fault f) := fun _ e => by simp at e

theorem refused (r : Refusal) : LeavesCri s c (.refused r) := fun _ e => by simp at e

theorem atSeq {st : SeqState} {k : BitVec 4} {f : State → State}
    (h : (f s).registers = { s.registers with cri := c }) : LeavesCri s c (s.atSeq st k f) := fun _ e => by
  obtain ⟨-, rfl⟩ := atSeq_next e
  exact h

theorem atHost {p : HostPos} {f : State → State} (h : (f s).registers = { s.registers with cri := c }) :
    LeavesCri s c (s.atHost p f) := fun _ e => by
  obtain ⟨-, rfl⟩ := atHost_next e
  exact h

theorem whenUnlocked {o : Host.Outcome State Fault Refusal} (h : LeavesCri s c o) : LeavesCri s c (s.whenUnlocked o) :=
  fun t e => h t (whenUnlocked_next e).2

end LeavesCri

/-! ## The operations whose meaning branches -/

section
open LeavesCri

/-- A counter read uses up a draw at most (R67). -/
theorem counterRead_registers (s : State) : (counterRead s).registers = s.registers := by
  rw [counterRead_eq]
  rfl

theorem execRdh_leaves (s : State) : LeavesCri s s.cri (execRdh s) := by
  unfold execRdh
  split_ifs
  · exact next (counterRead_registers s)
  · exact next (counterRead_registers s)
  · exact refused _

theorem execRdl_leaves (s : State) : LeavesCri s s.cri (execRdl s) := by
  unfold execRdl
  split_ifs
  · exact next (counterRead_registers s)
  · exact next (counterRead_registers s)
  · exact refused _

theorem execWday_leaves (s : State) : LeavesCri s s.cri (execWday s) := by
  unfold execWday
  split
  · split
    · exact next rfl
    · exact fault _
  · exact refused _

theorem execYearstep_leaves (s : State) : LeavesCri s s.cri (execYearstep s) :=
  atSeq (by split <;> rfl)

theorem execMonscan_leaves (s : State) : LeavesCri s s.cri (execMonscan s) := by
  unfold execMonscan
  split
  · dsimp only
    split
    · exact next rfl
    · exact fault _
  · exact refused _

theorem execRdflags_leaves (s : State) : LeavesCri s s.cri (execRdflags s) :=
  atSeq (by split_ifs <;> rfl)

theorem execDsprdy_leaves (s : State) : LeavesCri s s.cri (execDsprdy s) :=
  atSeq (by dsimp only; split <;> rfl)

theorem execClrtick_leaves (s : State) : LeavesCri s (clearTick s.cri) (execClrtick s) := by
  unfold execClrtick
  split_ifs
  · exact next rfl
  · exact next rfl
  · exact next rfl
  · exact refused _

theorem execDrawtext_leaves (pos : Pos) (text : Text) (s : State) : LeavesCri s s.cri (execDrawtext pos text s) := by
  unfold execDrawtext
  split
  · exact next rfl
  · exact refused _

theorem execCommit_leaves (s : State) : LeavesCri s s.cri (execCommit s) :=
  atSeq (by dsimp only; split <;> rfl)

/-- A write to a pin leaves the display's state as it is. -/
theorem setLevel_registers (s : State) (pin : Pin) (level : Bool) :
    (s.withSide (setLevel s.side pin level)).registers = s.registers := by
  cases pin <;> rfl

theorem execSetlvl_leaves (pin : Pin) (level : Bool) (s : State) : LeavesCri s s.cri (execSetlvl pin level s) := by
  unfold execSetlvl
  split_ifs
  · exact next (setLevel_registers s pin level)
  · exact next (setLevel_registers s pin level)
  · exact refused _

theorem execRdlvl_leaves (pin : Pin) (s : State) : LeavesCri s s.cri (execRdlvl pin s) := by
  unfold execRdlvl
  split_ifs
  · exact next rfl
  · exact refused _

theorem execLog_leaves (notice : Notice) (s : State) : LeavesCri s s.cri (execLog notice s) := by
  unfold execLog
  dsimp only
  split
  · exact next rfl
  · split
    · cases notice with
      | displayInit outcome =>
        dsimp only
        split
        · exact next rfl
        · exact refused _
      | oscTimeout =>
        dsimp only
        split
        · exact next rfl
        · exact refused _
      | alarmFired => exact refused _
    · exact refused _

/-- WAITSYNC clears RSF in its first step alone (R193). -/
theorem execWaitsync_leaves (s : State) : LeavesCri s (criAfter .waitsync s) (execWaitsync s) := by
  unfold execWaitsync
  split_ifs with hclear hwait
  · exact next (by simp [State.registers, criAfter, hclear.2])
  · exact next (by simp [State.registers, criAfter, hwait.2])
  · exact next (by simp [State.registers, criAfter, hwait.2])
  · exact refused _

/-! ## All operations -/

/-- The registers after any operation: `criAfter` says everything that it can have written there. -/
theorem exec_leaves (i : Instr) (s : State) : LeavesCri s (criAfter i s) (exec i s) := by
  unfold exec
  cases i with
  | rdh => exact execRdh_leaves s
  | rdl => exact execRdl_leaves s
  | cfgpre divisor => exact whenUnlocked (atHost rfl)
  | setcnt value => exact whenUnlocked (atHost rfl)
  | setalr value => exact whenUnlocked (atHost rfl)
  | enirq => exact whenUnlocked (atHost rfl)
  | clrtick => exact execClrtick_leaves s
  | clralr => exact atSeq rfl
  | rdsent => exact atHost rfl
  | wrsent value => exact whenUnlocked (atHost rfl)
  | rstbkp => exact whenUnlocked (atHost rfl)
  | selosc source => exact whenUnlocked (atHost rfl)
  | waitsync => exact execWaitsync_leaves s
  | unlockbkp => exact atHost rfl
  | rstcause => exact atHost rfl
  | oscrdy => exact atHost rfl
  | reghandler => exact atHost rfl
  | rdflags => exact execRdflags_leaves s
  | dsprdy => exact execDsprdy_leaves s
  | clrbuf => exact atSeq rfl
  | drawtext pos text => exact execDrawtext_leaves pos text s
  | commit => exact execCommit_leaves s
  | setlvl pin level => exact execSetlvl_leaves pin level s
  | rdlvl pin => exact execRdlvl_leaves pin s
  | log notice => exact execLog_leaves notice s
  | asm32 => exact atSeq rfl
  | tzsub => exact atSeq rfl
  | hms => exact atSeq rfl
  | wday => exact execWday_leaves s
  | yearinit => exact atSeq rfl
  | yearstep => exact execYearstep_leaves s
  | doyset => exact atSeq rfl
  | febfix => exact atSeq rfl
  | monscan => exact execMonscan_leaves s

end

/-- What a next state of an operation has in the registers, field by field. -/
theorem exec_registers {i : Instr} (h : exec i s = .next t) :
    t.cri = criAfter i s ∧ t.side.displayReady = s.side.displayReady ∧ t.side.sinkInit = s.side.sinkInit ∧
      t.env.por = s.env.por ∧ t.env.pinrst = s.env.pinrst ∧ t.cfg = s.cfg :=
  Registers.mk.inj (exec_leaves i s t h)

/-- Settles O50: an operation leaves `criAfter` of it and no other register changed, and `criAfter` writes each register in
the lines named for it alone. -/
theorem registersHaveTheirWriters : Obligations.RegistersHaveTheirWriters := by
  intro i s t h
  obtain ⟨hcri, hready, hinit, hpor, hpin, hcfg⟩ := exec_registers h
  rw [hcri]
  cases i <;> simp [criAfter, loseBackup_cri, clearTick, clearAlarm, hready, hinit, hpor, hpin, hcfg]

end Sys2Proof.Machine
end

section
/-! PROOFS. The steps without operation code (30_encoding R94): the counter's increment of 10_state R42, and the moves of
the environment and of the display's own initialisation, each an equation per case. -/

namespace Sys2Proof.Machine

variable {s : State}

/-! ## CTR.INC (R42) -/

theorem ctrInc_selected (h : s.cri.osc ≠ .none) : ctrInc s = s.withCri (increment s.cri) :=
  if_pos (by simpa [incEnabled] using h)

theorem ctrInc_unselected (h : s.cri.osc = .none) : ctrInc s = s := if_neg (by simp [incEnabled, h])

/-- The increment in natural numbers: modulo 2^32, and the match with ALARM on the new value. -/
theorem increment_eq (c : Cri) :
    increment c = { c with
      cnt := BitVec.ofNat 32 (c.cnt.toNat + 1)
      tickf := true
      alrf := if (c.cnt.toNat + 1) % 2 ^ 32 = c.alarm.toNat then true else c.alrf } := by
  have hcnt : c.cnt + 1#32 = BitVec.ofNat 32 (c.cnt.toNat + 1) := by
    rw [BitVec.ofNat_add, BitVec.ofNat_toNat, BitVec.setWidth_eq]
  have hmatch : BitVec.ofNat 32 (c.cnt.toNat + 1) = c.alarm ↔ (c.cnt.toNat + 1) % 2 ^ 32 = c.alarm.toNat := by
    rw [← BitVec.toNat_inj, BitVec.toNat_ofNat]
  simp only [increment, hcnt, ← hmatch]
  split
  next heq => simp [heq]
  next hne => simp [hne]

/-- Settles O41: the two cases of CTR.INC, with an oscillator selected and without. -/
theorem counterIncrementSetsTheFlags : Obligations.CounterIncrementSetsTheFlags := by
  refine fun s => ⟨fun hosc => congrArg Host.Outcome.next ?_, fun hnone => congrArg Host.Outcome.next ?_⟩
  · rw [ctrInc_selected hosc, increment_eq]
    rfl
  · exact ctrInc_unselected hnone

/-! ## The display's own initialisation (R48, R210) -/

theorem displayUp_after_failure (h : s.side.sinkInit = some .failed) : displayUp s = s := if_pos h

theorem displayUp_unless_failed (h : s.side.sinkInit ≠ some .failed) :
    displayUp s = s.withSide { s.side with displayReady := true, sinkInit := some .ok } := if_neg h

/-- HOST records how the initialisation ended, wherever it is in INIT (log 28). -/
theorem execLog_displayInit {outcome : InitOutcome} (hi : s.port.issuer = .host) (h : s.side.sinkInit = some outcome) :
    execLog (.displayInit outcome) s =
      .next ((s.withSide { s.side with logs := s.side.logs ++ [.displayInit outcome] }).answer .none) := by
  simp [execLog, hi, h]

/-- LOG issued by an agent is LOG with its word and its issuer on the ports. -/
theorem issue_log (agent : Agent) (notice : Notice) :
    issue agent (.log notice) s = execLog notice (s.withPort
      { s.port with op := encodeWord (.log notice), arg := encodeArg (.log notice), issuer := agent }) :=
  issueWord_ok (i := .log notice) rfl

/-- Issued by HOST, the notice of the outcome that has been is appended, and beside it only the ports change. -/
theorem issue_displayInit {outcome : InitOutcome} (h : s.side.sinkInit = some outcome) :
    ∃ p : Port, issue .host (.log (.displayInit outcome)) s = .next { s with
      side := { s.side with logs := s.side.logs ++ [.displayInit outcome] }
      port := p } :=
  ⟨_, (issue_log _ _).trans (execLog_displayInit rfl h)⟩

theorem displayFailed_before_end (h : s.side.sinkInit = none) :
    displayFailed s = issue .host (.log (.displayInit .failed)) (s.withSide { s.side with sinkInit := some .failed }) :=
  if_pos h

theorem displayFailed_after_end (h : s.side.sinkInit ≠ none) : displayFailed s = .next s := if_neg h

theorem displayNotice_after_ok (h : s.side.sinkInit = some .ok) :
    displayNotice s = issue .host (.log (.displayInit .ok)) s := if_pos h

theorem displayNotice_unless_ok (h : s.side.sinkInit ≠ some .ok) : displayNotice s = .next s := if_neg h

/-! ## ENV.OSC (R186) -/

theorem envOsc_unselected (h : s.cri.osc = .none) : envOsc s = s := if_pos h

theorem envOsc_selected (h : s.cri.osc ≠ .none) : envOsc s = s.withEnv { s.env with oscReady := true } := if_neg h

/-- Settles O44: each step by its cases; FC2 and the good notice are HOST's LOG of the outcome that has been. -/
theorem environmentStepsChangeOneThing : Obligations.EnvironmentStepsChangeOneThing := by
  refine fun s => ⟨rfl, fun h => ?up, fun h => ?upFailed, fun h => ?failed, fun h => ?failedEnded, fun h => ?notice,
    fun h => ?noticeNone, fun por pin => ⟨_, rfl, rfl⟩, fun h => ?osc, fun h => ?oscNone, s.drawBit 0, rfl⟩
  case up => exact congrArg Host.Outcome.next (displayUp_unless_failed h)
  case upFailed => exact congrArg Host.Outcome.next (displayUp_after_failure h)
  case failed =>
    obtain ⟨p, hp⟩ := issue_displayInit (s := s.withSide { s.side with sinkInit := some .failed }) rfl
    exact ⟨p, (displayFailed_before_end h).trans hp⟩
  case failedEnded => exact displayFailed_after_end h
  case notice =>
    obtain ⟨p, hp⟩ := issue_displayInit h
    exact ⟨p, (displayNotice_after_ok h).trans hp⟩
  case noticeNone => exact displayNotice_unless_ok h
  case osc => exact congrArg Host.Outcome.next (envOsc_selected h)
  case oscNone => exact congrArg Host.Outcome.next (envOsc_unselected h)

end Sys2Proof.Machine
end

section
/-! PROOFS. The accesses of 20_memory: where MONSCAN's scan of MDAYS leaves the table (R64, R128), and the gate of the
backup domain, which stops its seven writes and no flag clear (R68). -/

namespace Sys2Proof.Machine

variable {s : State}

/-! ## The scan's reads of MDAYS (R64, R128) -/

/-- The month, its cumulative total and the total before it that MONSCAN finds in the block; none where its scan would
read past entry 12. -/
def Block.foundMonth (b : Block) : Option (BitVec 4 × BitVec 16 × BitVec 16) :=
  monthScan (b.cm.doy.setWidth 16) 1#4 (b.mdays.m1.setWidth 16) 0#16 (monthsAfterFirst b.mdays)

/-- With the constant entries the scan finds no month exactly where the day lies beyond the year: 337 days and February. -/
theorem foundMonth_eq_none {b : Block} (h : b.mdays.wf = true) :
    b.foundMonth = none ↔ 337 + b.mdays.m2.toNat < b.cm.doy.toNat := by
  have hjan : (b.mdays.m1.setWidth 16).toNat = 31 := by rw [MonthTable.eq_withFebruary h]; rfl
  have hday : (b.cm.doy.setWidth 16).toNat = b.cm.doy.toNat := BitVec.toNat_setWidth_of_le (by decide)
  have hfeb := b.mdays.m2.isLt
  unfold Block.foundMonth
  rw [monthScan_eq_none, hjan, hday, sum_monthsAfterFirst h]
  · omega
  · rw [hjan, sum_monthsAfterFirst h]; omega

/-- A scan that finds no month is the one way in which MONSCAN stops in its place. -/
theorem execMonscan_unfound (hp : s.seqAt .decoding 7#4) (h : s.blk.foundMonth = none) :
    execMonscan s = .fault .noSuchEntry := by
  unfold Block.foundMonth at h
  simp only [execMonscan, if_pos hp, h]

theorem execMonscan_found (hp : s.seqAt .decoding 7#4) {m : BitVec 4} {cum prev : BitVec 16}
    (h : s.blk.foundMonth = some (m, cum, prev)) :
    execMonscan s = .next (((s.withBlk { s.blk with
      m := m, cum := cum, prev := prev
      cm := { s.blk.cm with month := m, date := (s.blk.cm.doy.setWidth 16 - prev).setWidth 5 } }).goto
        .rendering 0#4).answer .none) := by
  unfold Block.foundMonth at h
  simp only [execMonscan, if_pos hp, h]

/-- Settles O11: MONSCAN faults where its scan finds no month and completes where it finds one; `foundMonth_eq_none` says
which days those are. -/
theorem monscanStopsOnlyPastDecember : Obligations.MonscanStopsOnlyPastDecember := by
  intro s hi hp hwf
  rw [← Nat.not_lt, ← foundMonth_eq_none hwf]
  change (execMonscan s = .fault .noSuchEntry ↔ _) ∧ (_ → ∃ t, execMonscan s = .next t)
  match hscan : s.blk.foundMonth with
  | none => simp [execMonscan_unfound ⟨hi, hp⟩ hscan]
  | some (m, cum, prev) => simp [execMonscan_found ⟨hi, hp⟩ hscan]

/-! ## The gate of the backup domain (R68) -/

theorem execClralr_in_place (hp : s.seqAt .alarmHandling 2#4) :
    execClralr s = .next (returnToIdle ((s.withCri (clearAlarm s.cri)).answer .none)) := if_pos hp

/-- The later of CLRTICK's two places (R153): the path returns. -/
theorem execClrtick_at_rendering (hp : s.seqAt .rendering 5#4) :
    execClrtick s = .next (returnToIdle ((s.withCri (clearTick s.cri)).answer .none)) := by
  have hentry : ¬ s.seqAt .entry 2#4 := by simp [hp.2]
  simp only [execClrtick, if_neg hentry, if_pos hp]

/-- Settles O30: the seven writes meet the closed lock before anything else; the clears do not look at it. -/
theorem lockedWritesAreRefused : Obligations.LockedWritesAreRefused := by
  intro s value divisor half source hlock
  refine ⟨?rstbkp, ?selosc, ?cfgpre, ?setcnt, ?setalr, ?enirq, ?wrsent, fun hi hp => ?clralr, fun hi hp => ?clrtick⟩
  case rstbkp | selosc | cfgpre | setcnt | setalr | enirq | wrsent => exact whenUnlocked_locked _ hlock
  case clralr => exact ⟨_, execClralr_in_place ⟨hi, hp⟩, rfl⟩
  case clrtick => exact ⟨_, execClrtick_at_rendering ⟨hi, hp⟩, rfl⟩

end Sys2Proof.Machine
end

section
/-! PROOFS. The operation word (30_encoding R80 to R90): what the decoder can answer, and that decoding an encoded operation
gives it back. -/

namespace Sys2Proof

/-! ## The decoder -/

/-- Everything the decoder can do: a word decodes to an operation whose code it is, or it is none of the listed codes and is
answered as reserved (R83 to R85, R90). -/
theorem decode_cases (word : Byte) (arg : Arg) :
    (∃ i, decode word arg = .ok i ∧ encodeWord i = word) ∨
      (decode word arg = .error (.reservedCode word) ∧ Laws.listedCode word.toNat = false) := by
  unfold decode
  split
  case h_35 =>
    refine .inr ⟨rfl, ?_⟩
    simp only [Laws.listedCode, Bool.or_eq_false_iff, Bool.and_eq_false_iff, decide_eq_false_iff_not, beq_eq_false_iff_ne]
    simp only [imp_false] at *
    omega
  all_goals
    next hcode => exact .inl ⟨_, rfl, BitVec.eq_of_toNat_eq hcode.symm⟩

/-- No two codes name one operation: a decoded operation has the code it was decoded from. -/
theorem encodeWord_of_decode {word : Byte} {arg : Arg} {i : Instr} (h : decode word arg = .ok i) : encodeWord i = word := by
  obtain ⟨j, hj, hcode⟩ | ⟨herr, -⟩ := decode_cases word arg
  · exact Except.ok.inj (hj.symm.trans h) ▸ hcode
  · exact absurd (herr.symm.trans h) (by simp)

/-- Every operation has one of the listed codes. -/
theorem listedCode_encodeWord (i : Instr) : Laws.listedCode (encodeWord i).toNat = true := by cases i <;> rfl

/-- The codes of R83 to R85 are those that decode. -/
theorem decode_of_listed {word : Byte} (arg : Arg) (h : Laws.listedCode word.toNat = true) :
    ∃ i, decode word arg = .ok i := by
  obtain ⟨i, hi, -⟩ | ⟨-, hun⟩ := decode_cases word arg
  · exact ⟨i, hi⟩
  · exact absurd (hun.symm.trans h) (by decide)

/-- Every code that R83 to R85 do not list is reserved (R90). -/
theorem decode_of_unlisted {word : Byte} (arg : Arg) (h : Laws.listedCode word.toNat = false) :
    decode word arg = .error (.reservedCode word) := by
  obtain ⟨i, -, rfl⟩ | ⟨herr, -⟩ := decode_cases word arg
  · exact absurd ((listedCode_encodeWord i).symm.trans h) (by decide)
  · exact herr

theorem listedCode_iff (word : Byte) :
    Laws.listedCode word.toNat = true ↔
      (1 ≤ word.toNat ∧ word.toNat ≤ 0x12) ∨ (0x20 ≤ word.toNat ∧ word.toNat ≤ 0x23) ∨ word = 0x30#8 ∨ word = 0x31#8 ∨
        word = 0x40#8 ∨ (0x80 ≤ word.toNat ∧ word.toNat ≤ 0x88) := by
  simp [Laws.listedCode, ← BitVec.toNat_inj, or_assoc]

/-! ## The encoder -/

/-- ARG[0] carries the oscillator source (R86). -/
theorem oscSourceOfArg_argOfOscSource (source : OscSource) : oscSourceOfArg (argOfOscSource source) = source := by
  cases source <;> rfl

/-- The decoder reads from each format's ARG what the encoder puts there; only WRSENT's 16 bits and SELOSC's one bit do not
travel as they are (R81). -/
theorem decode_encode (i : Instr) : decode (encodeWord i) (encodeArg i) = .ok i := by
  cases i
  case wrsent value =>
    exact congrArg (fun v => Except.ok (Instr.wrsent v)) (BitVec.setWidth_setWidth_of_le value (by decide : 16 ≤ 32))
  case selosc source => exact congrArg (fun x => Except.ok (Instr.selosc x)) (oscSourceOfArg_argOfOscSource source)
  all_goals rfl

/-- An operation that takes nothing from ARG is the one the opcode table has for its code. -/
theorem decodeTableWord_encodeWord {i : Instr} (h : encodeArg i = Arg.zero) :
    decodeTableWord 8 (encodeWord i).toNat = some i := by
  rw [decodeTableWord, if_pos ⟨rfl, (encodeWord i).isLt⟩, BitVec.ofNat_toNat, BitVec.setWidth_eq, ← h, decode_encode]

/-! ## The statements -/

/-- Settles O36: by the round trip of each format, and by what the decoder can answer. -/
theorem decodeAndEncodeAgree : Obligations.DecodeAndEncodeAgree :=
  ⟨decode_encode, fun _ _ _ => encodeWord_of_decode⟩

/-- Settles O31: the obligation's groups are the listed codes, and an issued word that is reserved is refused. -/
theorem reservedCodesAreRefused : Obligations.ReservedCodesAreRefused := by
  intro s agent word arg
  rw [← listedCode_iff, Bool.not_eq_true]
  refine ⟨decode_of_listed arg, fun h => ?_⟩
  have hreserved := decode_of_unlisted arg h
  exact ⟨hreserved, Machine.issueWord_reserved hreserved⟩

/-- Settles O37: the words are those of the encoder, and 0x13 stands beside the first group. -/
theorem tableWordsDecode : Obligations.TableWordsDecode :=
  ⟨decodeTableWord_encodeWord (i := .rdh) rfl, decodeTableWord_encodeWord (i := .rdflags) rfl,
    decodeTableWord_encodeWord (i := .commit) rfl, decodeTableWord_encodeWord (i := .monscan) rfl,
    decode_encode (.setcnt 0x5FEE6600#32), decode_encode (.selosc .external), decode_encode (.setlvl .diag true),
    decode_encode (.log .alarmFired), decode_of_unlisted _ rfl⟩

end Sys2Proof
end

section
/-! PROOFS. The order in which operations are issued (30_encoding R91, R93): in its place an operation has its meaning, out
of it it is refused, and the agents' sequences hold each operation in its place and no other code there. -/

namespace Sys2Proof.Machine

variable {s t : State} {i : Instr}

/-! ## The places of the operations -/

/-- Where R93, R170 and R194 list the operation, with the agent that issues it there: of SEQ, HOST or EDGE. The notice of
the display's own initialisation is HOST's anywhere once the outcome has been (log 28). -/
def State.InPlace (s : State) (i : Instr) : Prop :=
  match i with
  | .rdh => s.seqAt .reading 0#4 ∨ s.seqAt .reading 2#4
  | .rdl => s.seqAt .reading 1#4 ∨ s.seqAt .reading 3#4
  | .cfgpre _ => s.hostAt (.step 6)
  | .setcnt _ => s.hostAt (.step 7)
  | .setalr _ => s.hostAt (.step 8)
  | .enirq => s.hostAt (.step 9)
  | .clrtick => s.seqAt .entry 2#4 ∨ s.seqAt .rendering 5#4
  | .clralr => s.seqAt .alarmHandling 2#4
  | .rdsent => s.hostAt (.step 2)
  | .wrsent _ => s.hostAt (.step 11)
  | .rstbkp => s.hostAt (.step 3)
  | .selosc _ => s.hostAt (.step 4)
  | .waitsync => s.hostAt (.step 12) ∨ s.hostAt .syncWait
  | .unlockbkp => s.hostAt (.step 0)
  | .rstcause => s.hostAt (.step 1)
  | .oscrdy => s.hostAt (.step 5)
  | .reghandler => s.hostAt (.step 10)
  | .rdflags => s.seqAt .entry 0#4
  | .dsprdy => s.seqAt .entry 1#4
  | .clrbuf => s.seqAt .rendering 0#4
  | .drawtext _ _ => s.seqAt .rendering 1#4 ∨ s.seqAt .rendering 2#4 ∨ s.seqAt .rendering 3#4
  | .commit => s.seqAt .rendering 4#4
  | .setlvl _ _ => s.seqAt .alarmHandling 0#4 ∨ (s.port.issuer = .edge ∧ s.edge.pos ≠ .rest ∧ s.edgeMay)
  | .rdlvl _ => s.port.issuer = .edge ∧ s.edge.pos = .rest ∧ 0 < s.edge.runs ∧ s.edgeMay
  | .log notice =>
    s.seqAt .alarmHandling 1#4 ∨ (s.hostAt .oscTimeout ∧ notice = .oscTimeout) ∨
      (s.port.issuer = .host ∧ ∃ outcome, s.side.sinkInit = some outcome ∧ notice = .displayInit outcome)
  | .asm32 => s.seqAt .reading 4#4
  | .tzsub => s.seqAt .decoding 0#4
  | .hms => s.seqAt .decoding 1#4
  | .wday => s.seqAt .decoding 2#4
  | .yearinit => s.seqAt .decoding 3#4
  | .yearstep => s.seqAt .decoding 4#4
  | .doyset => s.seqAt .decoding 5#4
  | .febfix => s.seqAt .decoding 6#4
  | .monscan => s.seqAt .decoding 7#4

theorem misissued_seq (h : s.port.issuer = .seq) : s.misissued = .offSequence := by simp [State.misissued, h]

theorem misissued_edge (h : s.port.issuer = .edge) : s.misissued = .offSequence := by simp [State.misissued, h]

/-! ## Out of place -/

/-- LOG issued by HOST answers with HOST's own refusal, which is the one that its issuer's mistakes have (R91). -/
theorem execLog_out_of_place {notice : Notice} (h : ¬ s.InPlace (.log notice)) :
    execLog notice s = .refused s.misissued := by
  simp only [State.InPlace, not_or] at h
  obtain ⟨hseq, htimeout, hinit⟩ := h
  simp only [execLog, if_neg hseq]
  split
  next hi =>
    rw [misissued_host hi]
    cases notice with
    | displayInit outcome => exact if_neg fun hs => hinit ⟨hi, outcome, hs, rfl⟩
    | oscTimeout => exact if_neg fun hp => htimeout ⟨⟨hi, hp⟩, rfl⟩
    | alarmFired => rfl
  next => rfl

/-- With the domain unlocked, an operation out of its place is refused as its issuer's mistake (R91, U5). -/
theorem exec_out_of_place (hlock : s.cri.bkpwe = true) (h : ¬ s.InPlace i) : exec i s = .refused s.misissued := by
  cases i
  case cfgpre | setcnt | setalr | enirq | wrsent | rstbkp | selosc =>
    exact (whenUnlocked_eq _ hlock).trans (if_neg h)
  case rdh | rdl | clrtick | waitsync | setlvl =>
    obtain ⟨hfirst, hsecond⟩ := not_or.mp h
    exact (if_neg hfirst).trans (if_neg hsecond)
  case log notice => exact execLog_out_of_place h
  all_goals exact if_neg h

/-! ## In place -/

/-- WDAY's read of WDTAB finds its entry for every DAYS (R64). -/
theorem execWday_in_place (hp : s.seqAt .decoding 2#4) : ∃ t, execWday s = .next t := by
  have hentry := wdtab_eq (Nat.mod_lt s.blk.days.toNat (by decide : 0 < 7))
  simp only [execWday, if_pos hp, hentry]
  exact ⟨_, rfl⟩

/-- From a consistent state MONSCAN's scan of MDAYS finds its month (R64). -/
theorem execMonscan_in_place (hc : Consistent s) (hp : s.seqAt .decoding 7#4) : ∃ t, execMonscan s = .next t :=
  ⟨_, execMonscan_found hp (hc.block.monthScan_eq hp.2)⟩

theorem execLog_in_place {notice : Notice} (h : s.InPlace (.log notice)) : ∃ t, execLog notice s = .next t := by
  obtain hseq | ⟨⟨hi, hp⟩, rfl⟩ | ⟨hi, outcome, hs, rfl⟩ := h
  · exact ⟨_, if_pos hseq⟩
  · simp [execLog, State.seqAt, hi, hp]
  · exact ⟨_, execLog_displayInit hi hs⟩

/-- An operation with two places completes in either. -/
theorem exists_next_of_either {p q : Prop} [Decidable p] [Decidable q] {u v : State} {o : Host.Outcome State Fault Refusal}
    (h : p ∨ q) : ∃ t, (if p then .next u else if q then .next v else o) = Host.Outcome.next t := by
  by_cases hp : p
  · exact ⟨u, if_pos hp⟩
  · exact ⟨v, (if_neg hp).trans (if_pos (h.resolve_left hp))⟩

/-- From a consistent state an operation in its place completes: past UNLOCKBKP the lock is open (R68), and no table is
read beyond its end (R64). -/
theorem exec_in_place (hc : Consistent s) (h : s.InPlace i) : ∃ t, exec i s = .next t := by
  cases i
  case cfgpre | setcnt | setalr | enirq | wrsent | rstbkp | selosc =>
    have hlock : s.cri.bkpwe = true := hc.unlocked (by rw [h.2]; rfl)
    exact ⟨_, (whenUnlocked_eq _ hlock).trans (if_pos h)⟩
  case rdh | rdl | clrtick | waitsync | setlvl => exact exists_next_of_either h
  case log notice => exact execLog_in_place h
  case wday => exact execWday_in_place h
  case monscan => exact execMonscan_in_place hc h
  all_goals exact ⟨_, if_pos h⟩

/-! ## The agents' sequences -/

/-- The operation that the sequence of the issuer lists where it is; none where it may not step. -/
def State.issuersNext (s : State) : Option Instr :=
  match s.port.issuer with
  | .seq => seqInstr s
  | .host => hostInstr s
  | .edge => if s.edgeMay then edgeInstr s else none

theorem issuersNext_seqAt {st : SeqState} {k : BitVec 4} (h : s.seqAt st k) :
    s.issuersNext = seqInstr (s.goto st k) := by
  obtain ⟨hi, hp⟩ := h
  have hgoto : s.goto st k = s := by rw [State.goto, ← hp]; rfl
  simp only [State.issuersNext, hi, hgoto]

theorem issuersNext_hostAt {p : HostPos} (h : s.hostAt p) : s.issuersNext = hostInstr (s.hostGoto p) := by
  obtain ⟨hi, rfl⟩ := h
  simp only [State.issuersNext, hi]
  rfl

theorem issuersNext_edge (hi : s.port.issuer = .edge) (hm : s.edgeMay) : s.issuersNext = edgeInstr s := by
  simp only [State.issuersNext, hi, if_pos hm]

/-- The code of the operation is the one that the issuer's sequence lists where it is. -/
def State.ListsCode (s : State) (i : Instr) : Prop := ∃ j, s.issuersNext = some j ∧ encodeWord i = encodeWord j

/-- An operation in its place has the code that is listed there, but for the notice that HOST issues outside INIT. -/
theorem listsCode_of_inPlace (h : s.InPlace i) :
    s.ListsCode i ∨
      (s.port.issuer = .host ∧ ∃ outcome, s.side.sinkInit = some outcome ∧ i = .log (.displayInit outcome)) := by
  cases i
  case cfgpre | setcnt | setalr | enirq | rdsent | wrsent | rstbkp | selosc | unlockbkp | rstcause | oscrdy | reghandler =>
    exact .inl ⟨_, issuersNext_hostAt h, rfl⟩
  case waitsync => rcases h with h | h <;> exact .inl ⟨_, issuersNext_hostAt h, rfl⟩
  case rdh | rdl | clrtick => rcases h with h | h <;> exact .inl ⟨_, issuersNext_seqAt h, rfl⟩
  case drawtext => rcases h with h | h | h <;> exact .inl ⟨_, issuersNext_seqAt h, rfl⟩
  case setlvl =>
    obtain h | ⟨hi, hpos, hmay⟩ := h
    · exact .inl ⟨_, issuersNext_seqAt h, rfl⟩
    · obtain ⟨l, hl⟩ : ∃ l, s.edge.pos = .toggle l := by
        cases hp : s.edge.pos with
        | rest => exact absurd hp hpos
        | toggle l => exact ⟨l, rfl⟩
      exact .inl ⟨.setlvl .diag (!l), by rw [issuersNext_edge hi hmay, edgeInstr, hl], rfl⟩
  case rdlvl =>
    obtain ⟨hi, hrest, hruns, hmay⟩ := h
    exact .inl ⟨.rdlvl .diag, by rw [issuersNext_edge hi hmay, edgeInstr, hrest]; exact if_pos hruns, rfl⟩
  case log =>
    obtain h | ⟨h, -⟩ | ⟨hi, outcome, hs, rfl⟩ := h
    · exact .inl ⟨_, issuersNext_seqAt h, rfl⟩
    · exact .inl ⟨_, issuersNext_hostAt h, rfl⟩
    · exact .inr ⟨hi, outcome, hs, rfl⟩
  all_goals exact .inl ⟨_, issuersNext_seqAt h, rfl⟩

theorem Pc.eq_mk {p : Pc} {st : SeqState} {k : Nat} (hst : p.state = st) (hk : p.step.toNat = k) :
    p = ⟨st, BitVec.ofNat 4 k⟩ := by
  subst hst hk
  rw [BitVec.ofNat_toNat, BitVec.setWidth_eq]

/-- Each row of SEQ's table (R170) lists an operation in its place. -/
theorem inPlace_of_seqInstr (hi : s.port.issuer = .seq) (h : seqInstr s = some i) : s.InPlace i := by
  unfold seqInstr at h
  split at h
  case h_26 => exact absurd h (by simp)
  all_goals
    next hst hk =>
      obtain rfl := Option.some.inj h
      simp [State.InPlace, State.seqAt, hi, Pc.eq_mk hst hk]

/-- Each position of HOST (R187, R194) lists an operation in its place. -/
theorem inPlace_of_hostInstr (hi : s.port.issuer = .host) (h : hostInstr s = some i) : s.InPlace i := by
  cases hp : s.boot.pos with
  | step hpc =>
    obtain ⟨n, hn⟩ := hpc
    simp only [hostInstr, hp] at h
    obtain rfl | hlt : n = 12 ∨ n < 12 := by omega
    · obtain rfl := Option.some.inj h
      exact .inl ⟨hi, hp⟩
    · interval_cases n <;> obtain rfl := Option.some.inj h <;> exact ⟨hi, hp⟩
  | oscTimeout =>
    obtain rfl : Instr.log .oscTimeout = i := by simpa [hostInstr, hp] using h
    exact .inr (.inl ⟨⟨hi, hp⟩, rfl⟩)
  | syncWait =>
    obtain rfl : Instr.waitsync = i := by simpa [hostInstr, hp] using h
    exact .inr ⟨hi, hp⟩
  | done => simp [hostInstr, hp] at h

/-- Each step of EDGE's run (R168) is in its place where EDGE may step (R219). -/
theorem inPlace_of_edgeInstr (hi : s.port.issuer = .edge) (hmay : s.edgeMay) (h : edgeInstr s = some i) : s.InPlace i := by
  cases hp : s.edge.pos with
  | rest =>
    obtain ⟨hruns, rfl⟩ : 0 < s.edge.runs ∧ Instr.rdlvl .diag = i := by simpa [edgeInstr, hp] using h
    exact ⟨hi, hp, hruns, hmay⟩
  | toggle l =>
    obtain rfl : Instr.setlvl .diag (!l) = i := by simpa [edgeInstr, hp] using h
    exact .inr ⟨hi, by simp [hp], hmay⟩

/-! ## Refusals (R91) -/

/-- Settles O32: an operation of HOST in its place has the listed code or is the notice that is set apart. -/
theorem hostOutOfOrderIsRefused : Obligations.HostOutOfOrderIsRefused := by
  intro s i hi hlock hcode hnotice
  rw [← misissued_host hi]
  refine exec_out_of_place hlock fun hplace => ?_
  obtain ⟨j, hj, hsame⟩ | ⟨-, outcome, hs, hlog⟩ := listsCode_of_inPlace hplace
  · exact hcode j (by simpa only [State.issuersNext, hi] using hj) hsame
  · exact hnotice outcome hs hlog

/-- An agent other than HOST that issues a code its sequence does not list is refused as a sequence no rule produces. -/
theorem exec_off_sequence (hlock : s.cri.bkpwe = true) (hi : s.port.issuer ≠ .host) (h : ¬ s.ListsCode i) :
    exec i s = .refused .offSequence := by
  have hmis : s.misissued = .offSequence := by
    cases ha : s.port.issuer with
    | host => exact absurd ha hi
    | seq => exact misissued_seq ha
    | edge => exact misissued_edge ha
  rw [← hmis]
  refine exec_out_of_place hlock fun hplace => ?_
  obtain hlists | ⟨hhost, -⟩ := listsCode_of_inPlace hplace
  · exact h hlists
  · exact hi hhost

/-- Settles O33: what SEQ's sequence lists is `seqInstr`, and EDGE's `edgeInstr` where R219 lets it step. -/
theorem offSequenceIssuesAreRefused : Obligations.OffSequenceIssuesAreRefused := by
  refine fun s i hlock => ⟨fun hi hcode => ?seq, fun hi hcode => ?edge⟩
  case seq =>
    refine exec_off_sequence hlock (by simp [hi]) fun ⟨j, hj, hsame⟩ => hcode j ?_ hsame
    simpa only [State.issuersNext, hi] using hj
  case edge =>
    refine exec_off_sequence hlock (by simp [hi]) fun ⟨j, hj, hsame⟩ => ?_
    simp only [State.issuersNext, hi, Option.ite_none_right_eq_some] at hj
    exact hcode j hj.2 hj.1 hsame

end Sys2Proof.Machine
end

section
/-! PROOFS. The steps of the agents (00_scope R12, R92): a step is the operation that a line names or that the agent's
sequence lists, and from a consistent state it always completes (R198, R214). -/

namespace Sys2Proof.Machine

variable {s : State} {i : Instr}

/-! ## What a step runs -/

theorem step_line {l : Line} {rest : List Line} (h : s.sched = l :: rest) : step s = takeLine l (s.withSched rest) := by
  simp [step, nextLine, lineTaken, h]

theorem step_free (h : s.sched = []) : step s = takeMove (Config.freeMove s.draws) (s.drawn 1) := by
  simp [step, nextLine, lineTaken, h, takeLine]

/-- The state in which an agent's operation runs: its word, ARG and issuer on the ports (R80). -/
def issued (agent : Agent) (i : Instr) (s : State) : State :=
  s.withPort { s.port with op := (encode i).1, arg := (encode i).2, issuer := agent }

/-- What an agent issues is decoded to the operation that it means. -/
theorem issue_eq_exec (agent : Agent) (i : Instr) (s : State) : issue agent i s = exec i (issued agent i s) :=
  issueWord_ok (decode_encode i)

theorem seqMove_issues (hp : s.blk.pc ≠ ⟨.idle, 0#4⟩) (h : seqInstr s = some i) : seqMove s = exec i (issued .seq i s) := by
  rw [← issue_eq_exec, seqMove, if_neg hp, h]

theorem hostMove_issues (h : hostInstr s = some i) : hostMove s = exec i (issued .host i s) := by
  rw [← issue_eq_exec, hostMove, h]

theorem edgeMove_issues (hmay : s.edgeMay) (h : edgeInstr s = some i) : edgeMove s = exec i (issued .edge i s) := by
  rw [← issue_eq_exec, edgeMove, if_pos hmay, h]

/-- Settles O34: the step takes the line, and a word that decodes runs its operation. -/
theorem stepRunsTheDecodedOperation : Obligations.StepRunsTheDecodedOperation :=
  fun _ _ _ _ _ _ hline hdec => (step_line hline).trans (issueWord_ok hdec)

/-- Settles O35: taking a line off leaves the agents where they are, so each issues what its sequence lists. -/
theorem stepRunsTheAgentsNextOperation : Obligations.StepRunsTheAgentsNextOperation := by
  refine fun s rest i => ⟨fun hl hp h => ?seq, fun hl h => ?host, fun hl hmay h => ?edge, fun hl => ?free⟩
  case seq => exact (step_line hl).trans (seqMove_issues (s := s.withSched rest) hp h)
  case host => exact (step_line hl).trans (hostMove_issues (s := s.withSched rest) h)
  case edge => exact (step_line hl).trans (edgeMove_issues (s := s.withSched rest) hmay h)
  case free => exact step_free hl

/-! ## No move is refused -/

/-- From a consistent state an agent's own operation completes. -/
theorem issued_completes {agent : Agent} (hc : Consistent s) (h : (issued agent i s).InPlace i) :
    ∃ t, exec i (issued agent i s) = .next t := exec_in_place hc.withPort h

/-- SEQ has an operation at each listed pc but (Idle,0) (R170). -/
theorem exists_seqInstr (hl : listedPc s.blk.pc = true) (hp : s.blk.pc ≠ ⟨.idle, 0#4⟩) : ∃ i, seqInstr s = some i := by
  cases hst : s.blk.pc.state
  all_goals simp only [listedPc, hst, decide_eq_true_eq] at hl
  case idle => exact absurd (Pc.eq_mk hst hl) hp
  all_goals interval_cases hk : s.blk.pc.step.toNat <;> simp [seqInstr, hst, hk]

theorem seqMove_completes (hc : Consistent s) : ∃ t, seqMove s = .next t := by
  by_cases hp : s.blk.pc = ⟨.idle, 0#4⟩
  · exact ⟨_, if_pos hp⟩
  · obtain ⟨i, h⟩ := exists_seqInstr hc.listed hp
    rw [seqMove_issues hp h]
    exact issued_completes hc (inPlace_of_seqInstr rfl h)

theorem hostMove_completes (hc : Consistent s) : ∃ t, hostMove s = .next t := by
  cases h : hostInstr s with
  | none => exact ⟨s, hostMove_idle h⟩
  | some i =>
    rw [hostMove_issues h]
    exact issued_completes hc (inPlace_of_hostInstr rfl h)

theorem edgeMove_completes (hc : Consistent s) : ∃ t, edgeMove s = .next t := by
  by_cases hmay : s.edgeMay
  · cases h : edgeInstr s with
    | none => exact ⟨s, edgeMove_idle h⟩
    | some i =>
      rw [edgeMove_issues hmay h]
      exact issued_completes hc (inPlace_of_edgeInstr rfl hmay h)
  · exact ⟨s, edgeMove_kept_out hmay⟩

/-- FC2 marks the failure before HOST records it, so its notice is the one of the outcome that has been (R210). -/
theorem displayFailed_completes (s : State) : ∃ t, displayFailed s = .next t := by
  by_cases h : s.side.sinkInit = none
  · obtain ⟨p, hp⟩ := issue_displayInit (s := s.withSide { s.side with sinkInit := some .failed }) rfl
    exact ⟨_, (displayFailed_before_end h).trans hp⟩
  · exact ⟨s, displayFailed_after_end h⟩

theorem displayNotice_completes (s : State) : ∃ t, displayNotice s = .next t := by
  by_cases h : s.side.sinkInit = some .ok
  · obtain ⟨p, hp⟩ := issue_displayInit h
    exact ⟨_, (displayNotice_after_ok h).trans hp⟩
  · exact ⟨s, displayNotice_unless_ok h⟩

theorem takeMove_completes (hc : Consistent s) (m : Move) : ∃ t, takeMove m s = .next t := by
  cases m
  case seq => exact seqMove_completes hc
  case host => exact hostMove_completes hc
  case edge => exact edgeMove_completes hc
  case displayFailed => exact displayFailed_completes s
  case displayNotice => exact displayNotice_completes s
  all_goals exact ⟨_, rfl⟩

/-- Settles O48: the line taken is a move, and from a consistent state every move completes. -/
theorem agentsAreNeverRefused : Obligations.AgentsAreNeverRefused := by
  intro s hc hmove
  match hl : s.sched with
  | [] =>
    rw [step_free hl]
    exact takeMove_completes hc.drawn _
  | .move m :: rest =>
    rw [step_line hl]
    exact takeMove_completes hc.withSched m
  | .op agent word arg :: rest => simp [hl, isMoveLine] at hmove

end Sys2Proof.Machine
end

section
/-! PROOFS. The counter read (40_counter_read): its three operations in their places (R100 to R102), the runs of SEQ's reads
with increments between them, and how far those keep the reassembled value exact (R105, R107). -/

namespace Sys2Proof.Machine

variable {s t : State}

/-! ## The halves of a counter value (R62) -/

/-- The high and the low half of a counter value, in natural numbers. -/
def highOf (c : Word) : Half := BitVec.ofNat 16 (c.toNat / 65536)
def lowOf (c : Word) : Half := BitVec.ofNat 16 (c.toNat % 65536)

theorem cnth_eq_highOf (s : State) : cnth s = highOf s.cri.cnt := by
  apply BitVec.eq_of_toNat_eq
  simp [cnth, highOf, BitVec.extractLsb'_toNat, Nat.shiftRight_eq_div_pow]

theorem cntl_eq_lowOf (s : State) : cntl s = lowOf s.cri.cnt := by
  apply BitVec.eq_of_toNat_eq
  simp [cntl, lowOf, BitVec.extractLsb'_toNat]

theorem highOf_toNat (c : Word) : (highOf c).toNat = c.toNat / 65536 := by
  have := c.isLt
  simp only [highOf, BitVec.toNat_ofNat]
  omega

theorem lowOf_toNat (c : Word) : (lowOf c).toNat = c.toNat % 65536 := by
  simp [lowOf]

theorem highOf_inj {c d : Word} : highOf c = highOf d ↔ c.toNat / 65536 = d.toNat / 65536 := by
  rw [← BitVec.toNat_inj, highOf_toNat, highOf_toNat]

theorem joinHalves_toNat (h l : Half) : (joinHalves h l).toNat = 65536 * h.toNat + l.toNat := by
  rw [joinHalves, BitVec.toNat_append, ← Nat.shiftLeft_add_eq_or_of_lt l.isLt, Nat.shiftLeft_eq]
  omega

/-- A high half read at another instant is as good as one read with the low half, as long as it has not changed. -/
theorem joinHalves_of_same_high {c d : Word} (h : c.toNat / 65536 = d.toNat / 65536) :
    joinHalves (highOf c) (lowOf d) = d := by
  apply BitVec.eq_of_toNat_eq
  rw [joinHalves_toNat, highOf_toNat, lowOf_toNat, h]
  exact Nat.div_add_mod _ _

theorem reassembled_same {b : Block} (h : b.h1 = b.h2) : reassembled b = joinHalves b.h1 b.l1 := if_pos h

theorem reassembled_differ {b : Block} (h : b.h1 ≠ b.h2) : reassembled b = joinHalves b.h2 b.l2 := if_neg h

/-! ## The operations in their places (R100 to R102) -/

theorem counterHigh_eq (s : State) :
    counterHigh s = if s.cri.rsf then highOf s.cri.cnt else (Config.free s.draws).setWidth 16 := by
  rw [← cnth_eq_highOf]
  rfl

theorem counterLow_eq (s : State) :
    counterLow s = if s.cri.rsf then lowOf s.cri.cnt else (Config.free s.draws).setWidth 16 := by
  rw [← cntl_eq_lowOf]
  rfl

/-- The whole state after a counter read that answers `v` and leaves the block as `b`. -/
def afterRead (v : Half) (b : Block) (s : State) : State :=
  { s with blk := b, port := { s.port with res := .q16 v }, draws := s.draws + (if s.cri.rsf then 0 else 1) }

theorem execRdh_first (hp : s.seqAt .reading 0#4) :
    execRdh s = .next (afterRead (counterHigh s) { s.blk with h1 := counterHigh s, pc := ⟨.reading, 1#4⟩ } s) := by
  simp only [execRdh, if_pos hp, counterRead_eq]
  rfl

theorem execRdh_second (hp : s.seqAt .reading 2#4) :
    execRdh s = .next (afterRead (counterHigh s)
      { s.blk with h2 := counterHigh s, pc := ⟨.reading, if s.blk.h1 ≠ counterHigh s then 3#4 else 4#4⟩ } s) := by
  have hfirst : ¬ s.seqAt .reading 0#4 := by simp [hp.2]
  simp only [execRdh, if_neg hfirst, if_pos hp, counterRead_eq, ite_not]
  rfl

theorem execRdl_first (hp : s.seqAt .reading 1#4) :
    execRdl s = .next (afterRead (counterLow s) { s.blk with l1 := counterLow s, pc := ⟨.reading, 2#4⟩ } s) := by
  simp only [execRdl, if_pos hp, counterRead_eq]
  rfl

theorem execRdl_second (hp : s.seqAt .reading 3#4) :
    execRdl s = .next (afterRead (counterLow s) { s.blk with l2 := counterLow s, pc := ⟨.reading, 4#4⟩ } s) := by
  have hfirst : ¬ s.seqAt .reading 1#4 := by simp [hp.2]
  simp only [execRdl, if_neg hfirst, if_pos hp, counterRead_eq]
  rfl

theorem execAsm32_in_place (hp : s.seqAt .reading 4#4) :
    execAsm32 s = .next { s with
      blk := { s.blk with raw := reassembled s.blk, pc := ⟨.decoding, 0#4⟩ }
      port := { s.port with res := .none } } :=
  atSeq_eq_next _ _ _ hp.1 hp.2

/-- Settles O1: RDH in its two places, answering what `counterHigh` is. -/
theorem rdhReadsTheHighHalf : Obligations.RdhReadsTheHighHalf := by
  refine ⟨fun _ => rfl, fun s v hi hv => ?_⟩
  obtain rfl : v = counterHigh s := hv.trans (counterHigh_eq s).symm
  exact ⟨fun hp => execRdh_first ⟨hi, hp⟩, fun hp => execRdh_second ⟨hi, hp⟩⟩

/-- Settles O2: RDL in its two places, answering what `counterLow` is. -/
theorem rdlReadsTheLowHalf : Obligations.RdlReadsTheLowHalf := by
  refine ⟨fun _ => rfl, fun s v hi hv => ?_⟩
  obtain rfl : v = counterLow s := hv.trans (counterLow_eq s).symm
  exact ⟨fun hp => execRdl_first ⟨hi, hp⟩, fun hp => execRdl_second ⟨hi, hp⟩⟩

/-- The reassembly in natural numbers, in the order of R102's test. -/
theorem reassembled_eq (b : Block) :
    reassembled b = if b.h1 ≠ b.h2 then BitVec.ofNat 32 (65536 * b.h2.toNat + b.l2.toNat)
      else BitVec.ofNat 32 (65536 * b.h1.toNat + b.l1.toNat) := by
  have hjoin (h l : Half) : joinHalves h l = BitVec.ofNat 32 (65536 * h.toNat + l.toNat) := by
    rw [← joinHalves_toNat, BitVec.ofNat_toNat, BitVec.setWidth_eq]
  rw [ite_not, ← hjoin, ← hjoin]
  rfl

/-- Settles O3: ASM32 in its place, with the reassembly in natural numbers. -/
theorem asmReassemblesTheCounter : Obligations.AsmReassemblesTheCounter := by
  refine ⟨fun _ => rfl, fun s hi hp => ?_⟩
  rw [← reassembled_eq]
  exact execAsm32_in_place ⟨hi, hp⟩

/-! ## Runs of moves -/

theorem runMoves_append {ms ms' : List Move} (h : runMoves ms s = .next t) : runMoves (ms ++ ms') s = runMoves ms' t := by
  induction ms generalizing s with
  | nil => rw [List.nil_append, Host.Outcome.next.inj h]
  | cons m rest ih =>
    simp only [List.cons_append, runMoves] at h ⊢
    cases hm : takeMove m s with
    | next u =>
      rw [hm] at h
      exact ih h
    | fault f => simp [hm] at h
    | refused r => simp [hm] at h

theorem runMoves_singleton {m : Move} (h : takeMove m s = .next t) : runMoves [m] s = .next t := by
  simp [runMoves, h]

/-- In the middle of a read: since the counter held `c` there have been `k` increments, the counter runs and is
synchronised, and the block is `b`. -/
structure MidRead (c : Word) (k : Nat) (b : Block) (s : State) : Prop where
  count : s.cri.cnt = c + BitVec.ofNat 32 k
  synced : s.cri.rsf = true
  selected : s.cri.osc ≠ .none
  block : s.blk = b

/-- The moves complete from every such state, and lead to `k'` increments and the block `b'`. -/
def ReadRun (c : Word) (ms : List Move) (k : Nat) (b : Block) (k' : Nat) (b' : Block) : Prop :=
  ∀ s, MidRead c k b s → ∃ t, runMoves ms s = .next t ∧ MidRead c k' b' t

section
variable {c : Word} {k k' k'' : Nat} {b b' b'' : Block} {ms ms' : List Move}

theorem ReadRun.append (h : ReadRun c ms k b k' b') (h' : ReadRun c ms' k' b' k'' b'') :
    ReadRun c (ms ++ ms') k b k'' b'' := by
  intro s hs
  obtain ⟨t, hrun, ht⟩ := h s hs
  obtain ⟨u, hrun', hu⟩ := h' t ht
  exact ⟨u, (runMoves_append hrun).trans hrun', hu⟩

/-- One increment of a running counter (R42): the read's registers stay. -/
theorem MidRead.ctrInc (h : MidRead c k b s) : MidRead c (k + 1) b (ctrInc s) := by
  rw [ctrInc_selected h.selected]
  refine ⟨?_, h.synced, h.selected, h.block⟩
  rw [BitVec.ofNat_add, ← BitVec.add_assoc, ← h.count]
  rfl

theorem readRun_increments (c : Word) (n k : Nat) (b : Block) :
    ReadRun c (List.replicate n .ctrInc) k b (k + n) b := by
  induction n generalizing k with
  | zero => exact fun s hs => ⟨s, rfl, hs⟩
  | succ n ih =>
    have hone : ReadRun c [.ctrInc] k b (k + 1) b := fun s hs => ⟨_, rfl, hs.ctrInc⟩
    have hall := hone.append (ih (k + 1))
    rw [Nat.add_right_comm] at hall
    exact hall

/-! ## SEQ's turns in SAFEREAD (R103) -/

theorem MidRead.counterHigh (h : MidRead c k b s) : counterHigh s = highOf (c + BitVec.ofNat 32 k) := by
  rw [counterHigh_eq, if_pos h.synced, h.count]

theorem MidRead.counterLow (h : MidRead c k b s) : counterLow s = lowOf (c + BitVec.ofNat 32 k) := by
  rw [counterLow_eq, if_pos h.synced, h.count]

/-- A turn of SEQ at a step of Reading is the operation that the table lists there. -/
theorem readRun_seq {i : Instr} {step : BitVec 4} (hp : b.pc = ⟨.reading, step⟩)
    (hi : ∀ s : State, s.blk.pc = ⟨.reading, step⟩ → seqInstr s = some i)
    (hx : ∀ s, s.seqAt .reading step → MidRead c k b s → ∃ t, exec i s = .next t ∧ MidRead c k b' t) :
    ReadRun c [.seq] k b k b' := by
  intro s hs
  have hpc : s.blk.pc = ⟨.reading, step⟩ := hs.block ▸ hp
  obtain ⟨t, hexec, ht⟩ := hx (issued .seq i s) ⟨rfl, hpc⟩ { hs with }
  exact ⟨t, runMoves_singleton ((seqMove_issues (by simp [hpc]) (hi s hpc)).trans hexec), ht⟩

theorem readRun_h1 (hp : b.pc = ⟨.reading, 0#4⟩) :
    ReadRun c [.seq] k b k { b with h1 := highOf (c + BitVec.ofNat 32 k), pc := ⟨.reading, 1#4⟩ } := by
  refine readRun_seq (i := .rdh) hp (fun s h => by rw [seqInstr, h]; rfl) fun s hat hs => ⟨_, execRdh_first hat, ?_⟩
  rw [hs.counterHigh, hs.block]
  exact { hs with block := rfl }

theorem readRun_l1 (hp : b.pc = ⟨.reading, 1#4⟩) :
    ReadRun c [.seq] k b k { b with l1 := lowOf (c + BitVec.ofNat 32 k), pc := ⟨.reading, 2#4⟩ } := by
  refine readRun_seq (i := .rdl) hp (fun s h => by rw [seqInstr, h]; rfl) fun s hat hs => ⟨_, execRdl_first hat, ?_⟩
  rw [hs.counterLow, hs.block]
  exact { hs with block := rfl }

theorem readRun_h2 (hp : b.pc = ⟨.reading, 2#4⟩) :
    ReadRun c [.seq] k b k { b with
      h2 := highOf (c + BitVec.ofNat 32 k)
      pc := ⟨.reading, if b.h1 ≠ highOf (c + BitVec.ofNat 32 k) then 3#4 else 4#4⟩ } := by
  refine readRun_seq (i := .rdh) hp (fun s h => by rw [seqInstr, h]; rfl) fun s hat hs => ⟨_, execRdh_second hat, ?_⟩
  rw [hs.counterHigh, hs.block]
  exact { hs with block := rfl }

theorem readRun_l2 (hp : b.pc = ⟨.reading, 3#4⟩) :
    ReadRun c [.seq] k b k { b with l2 := lowOf (c + BitVec.ofNat 32 k), pc := ⟨.reading, 4#4⟩ } := by
  refine readRun_seq (i := .rdl) hp (fun s h => by rw [seqInstr, h]; rfl) fun s hat hs => ⟨_, execRdl_second hat, ?_⟩
  rw [hs.counterLow, hs.block]
  exact { hs with block := rfl }

theorem readRun_asm32 (hp : b.pc = ⟨.reading, 4#4⟩) :
    ReadRun c [.seq] k b k { b with raw := reassembled b, pc := ⟨.decoding, 0#4⟩ } := by
  refine readRun_seq (i := .asm32) hp (fun s h => by rw [seqInstr, h]; rfl) fun s hat hs =>
    ⟨_, execAsm32_in_place hat, ?_⟩
  rw [hs.block]
  exact { hs with block := rfl }

/-! ## Whole reads (R104) -/

/-- The block after the first three reads: the halves as they stood after 0, `n1` and `n1 + n2` increments. -/
def Block.threeReads (b : Block) (c : Word) (n1 n2 : Nat) (next : BitVec 4) : Block :=
  { b with
    h1 := highOf c
    l1 := lowOf (c + BitVec.ofNat 32 n1)
    h2 := highOf (c + BitVec.ofNat 32 (n1 + n2))
    pc := ⟨.reading, next⟩ }

/-- The first three reads (R103), with increments between them. -/
theorem readRun_threeReads (hp : b.pc = ⟨.reading, 0#4⟩) (c : Word) (n1 n2 : Nat) :
    ReadRun c ([Move.seq] ++ List.replicate n1 Move.ctrInc ++ [Move.seq] ++ List.replicate n2 Move.ctrInc ++ [Move.seq])
      0 b (n1 + n2)
      (b.threeReads c n1 n2 (if highOf c ≠ highOf (c + BitVec.ofNat 32 (n1 + n2)) then 3#4 else 4#4)) := by
  have h1 : ReadRun c [.seq] 0 b 0 { b with h1 := highOf c, pc := ⟨.reading, 1#4⟩ } := by
    simpa only [BitVec.ofNat_eq_ofNat, BitVec.add_zero] using readRun_h1 (c := c) (k := 0) hp
  have l1 := (h1.append (readRun_increments c n1 0 _)).append (readRun_l1 rfl)
  rw [Nat.zero_add] at l1
  exact (l1.append (readRun_increments c n2 n1 _)).append (readRun_h2 rfl)

/-- Where the high reads agree, ASM32 follows and takes the first reads. -/
theorem readRun_same_high (hp : b.pc = ⟨.reading, 0#4⟩) {n1 n2 : Nat}
    (h : highOf c = highOf (c + BitVec.ofNat 32 (n1 + n2))) :
    ReadRun c ([Move.seq] ++ List.replicate n1 Move.ctrInc ++ [Move.seq] ++ List.replicate n2 Move.ctrInc ++
        [Move.seq, .seq]) 0 b (n1 + n2)
      { b.threeReads c n1 n2 4#4 with
        raw := joinHalves (highOf c) (lowOf (c + BitVec.ofNat 32 n1)), pc := ⟨.decoding, 0#4⟩ } := by
  have hreads := readRun_threeReads hp c n1 n2
  rw [if_neg (not_not.mpr h)] at hreads
  have hasm := readRun_asm32 (c := c) (k := n1 + n2) (b := b.threeReads c n1 n2 4#4) rfl
  rw [reassembled_same h] at hasm
  have hall := hreads.append hasm
  rw [List.append_assoc] at hall
  exact hall

/-- Where they differ, the low half is read again after `n3` more increments, and ASM32 takes the second reads. -/
theorem readRun_new_high (hp : b.pc = ⟨.reading, 0#4⟩) {n1 n2 : Nat}
    (h : highOf c ≠ highOf (c + BitVec.ofNat 32 (n1 + n2))) (n3 : Nat) :
    ReadRun c ([Move.seq] ++ List.replicate n1 Move.ctrInc ++ [Move.seq] ++ List.replicate n2 Move.ctrInc ++ [Move.seq] ++
        List.replicate n3 Move.ctrInc ++ [Move.seq, .seq]) 0 b (n1 + n2 + n3)
      { b.threeReads c n1 n2 4#4 with
        l2 := lowOf (c + BitVec.ofNat 32 (n1 + n2 + n3))
        raw := joinHalves (highOf (c + BitVec.ofNat 32 (n1 + n2))) (lowOf (c + BitVec.ofNat 32 (n1 + n2 + n3)))
        pc := ⟨.decoding, 0#4⟩ } := by
  have hreads := readRun_threeReads hp c n1 n2
  rw [if_pos h] at hreads
  have hlow := (hreads.append (readRun_increments c n3 _ _)).append (readRun_l2 rfl)
  have hasm := readRun_asm32 (c := c) (k := n1 + n2 + n3) (b := { b.threeReads c n1 n2 4#4 with
    l2 := lowOf (c + BitVec.ofNat 32 (n1 + n2 + n3)) }) rfl
  rw [reassembled_differ h] at hasm
  have hall := hlow.append hasm
  rw [List.append_assoc] at hall
  exact hall

end

/-! ## How far the read is exact (R105, R107) -/

theorem counterAfter_toNat (c : Word) (n : Nat) : (c + BitVec.ofNat 32 n).toNat = (c.toNat + n) % 2 ^ 32 := by
  simp [BitVec.toNat_add]

/-- A value reached by `n` increments lies at most `n` after the first one, in the cyclic order. -/
theorem counterAfter_distance_le (c : Word) (n : Nat) : (c + BitVec.ofNat 32 n - c).toNat ≤ n := by
  rw [BitVec.add_comm, BitVec.add_sub_cancel, BitVec.toNat_ofNat]
  exact Nat.mod_le _ _

/-- At most 65536 increments that end with the high half they began with never leave it. -/
theorem high_kept {c n1 n2 : Nat} (hc : c < 2 ^ 32) (h : c / 65536 = (c + n1 + n2) % 2 ^ 32 / 65536)
    (hn : n1 + n2 ≤ 65536) : c / 65536 = (c + n1) % 2 ^ 32 / 65536 := by
  omega

/-- At most 65536 increments that have changed the high half do not change it again. -/
theorem new_high_kept {c n m : Nat} (hc : c < 2 ^ 32) (h : c / 65536 ≠ (c + n) % 2 ^ 32 / 65536) (hn : n + m ≤ 65536) :
    (c + n) % 2 ^ 32 / 65536 = (c + (n + m)) % 2 ^ 32 / 65536 := by
  omega

/-- A state in which SEQ is to begin the read. -/
theorem MidRead.begin (hr : s.cri.rsf = true) (ho : s.cri.osc ≠ .none) : MidRead s.cri.cnt 0 s.blk s :=
  ⟨(BitVec.add_zero _).symm, hr, ho, rfl⟩

/-- Settles O54: with at most 65536 increments inside, the high half that ASM32 takes is the one the counter had at the
low read that goes with it. -/
theorem safeReadIsExact : Obligations.SafeReadIsExact := by
  refine fun s n1 n2 n3 hp hr ho => ⟨fun hsame hn => ?same, fun hdiff hn => ?differ⟩
  case same =>
    have hhigh : highOf s.cri.cnt = highOf (s.cri.cnt + BitVec.ofNat 32 (n1 + n2)) := by
      rw [highOf_inj, counterAfter_toNat, ← Nat.add_assoc]
      exact hsame
    obtain ⟨t, hrun, ht⟩ := readRun_same_high hp hhigh s (.begin hr ho)
    have hraw : t.blk.raw = s.cri.cnt + BitVec.ofNat 32 n1 := by
      rw [ht.block]
      exact joinHalves_of_same_high ((counterAfter_toNat _ _).symm ▸ high_kept s.cri.cnt.isLt hsame hn)
    refine ⟨t, hrun, by rw [ht.block], hraw, ?_⟩
    rw [hraw]
    exact (counterAfter_distance_le _ _).trans (Nat.le_add_right _ _)
  case differ =>
    rw [Nat.add_assoc s.cri.cnt.toNat] at hdiff
    have hhigh : highOf s.cri.cnt ≠ highOf (s.cri.cnt + BitVec.ofNat 32 (n1 + n2)) := by
      rw [ne_eq, highOf_inj, counterAfter_toNat]
      exact hdiff
    obtain ⟨t, hrun, ht⟩ := readRun_new_high hp hhigh n3 s (.begin hr ho)
    have hraw : t.blk.raw = s.cri.cnt + BitVec.ofNat 32 (n1 + n2 + n3) := by
      rw [ht.block]
      refine joinHalves_of_same_high ?_
      rw [counterAfter_toNat, counterAfter_toNat]
      exact new_high_kept s.cri.cnt.isLt hdiff hn
    refine ⟨t, hrun, by rw [ht.block], hraw, ht.count.trans hraw.symm, ?_⟩
    rw [hraw]
    exact counterAfter_distance_le _ _

/-- Settles O55: the second high read sees the first rollover, the re-read of the low half comes after another one. -/
theorem safeReadFailsPastItsPremise : Obligations.SafeReadFailsPastItsPremise := by
  intro s hp hr ho hcnt
  have hhigh : highOf s.cri.cnt ≠ highOf (s.cri.cnt + BitVec.ofNat 32 (0 + 1)) := by
    rw [hcnt]
    decide
  obtain ⟨t, hrun, ht⟩ := readRun_new_high hp hhigh 65536 s (.begin hr ho)
  have hraw : t.blk.raw = joinHalves (highOf (s.cri.cnt + BitVec.ofNat 32 (0 + 1)))
      (lowOf (s.cri.cnt + BitVec.ofNat 32 (0 + 1 + 65536))) := by rw [ht.block]
  refine ⟨t, hrun, ?_, ?_⟩
  · rw [hraw, hcnt]
    decide
  · rw [ht.count, hcnt]
    decide

end Sys2Proof.Machine
end

section
/-! PROOFS. The compute steps of DECODE (41_decoder R121 to R128): each in its place, with its results in natural numbers. -/

namespace Sys2Proof.Machine

variable {s : State}

/-! ## The steps in their places -/

/-- The whole state after a step of SEQ that leaves the block as `b` and puts nothing on RES. -/
def afterCompute (b : Block) (s : State) : State := { s with blk := b, port := { s.port with res := .none } }

theorem execTzsub_in_place (hp : s.seqAt .decoding 0#4) :
    execTzsub s = .next (afterCompute { s.blk with e := s.blk.raw - 18000#32, pc := ⟨.decoding, 1#4⟩ } s) :=
  atSeq_eq_next _ _ _ hp.1 hp.2

theorem execHms_in_place (hp : s.seqAt .decoding 1#4) :
    execHms s = .next (afterCompute { s.blk with
      cm := { s.blk.cm with
        second := (s.blk.e % 60#32).setWidth 6
        minute := (s.blk.e / 60#32 % 60#32).setWidth 6
        hour := (s.blk.e / 3600#32 % 24#32).setWidth 5 }
      days := s.blk.e / 86400#32
      pc := ⟨.decoding, 2#4⟩ } s) :=
  atSeq_eq_next _ _ _ hp.1 hp.2

theorem execWday_entry (hp : s.seqAt .decoding 2#4) {w : BitVec 3} (hw : wdtab (s.blk.days.toNat % 7) = some w) :
    execWday s = .next (afterCompute { s.blk with cm := { s.blk.cm with weekday := w }, pc := ⟨.decoding, 3#4⟩ } s) := by
  simp only [execWday, if_pos hp, hw]
  rfl

theorem execYearinit_in_place (hp : s.seqAt .decoding 3#4) :
    execYearinit s = .next (afterCompute { s.blk with
      cm := { s.blk.cm with year := 1970#16 }
      leap := isLeap 1970
      d := s.blk.days
      leapDays := 0#8
      pc := ⟨.decoding, 4#4⟩ } s) :=
  atSeq_eq_next _ _ _ hp.1 hp.2

/-- The loop goes on while a whole year is left in D. -/
theorem execYearstep_subtracts (hp : s.seqAt .decoding 4#4) (h : ylen s.blk.leap ≤ s.blk.d.toNat) :
    execYearstep s = .next (afterCompute { nextYear s.blk with pc := ⟨.decoding, 4#4⟩ } s) := by
  rw [execYearstep, atSeq_eq_next _ _ _ hp.1 hp.2, if_pos h]
  rfl

theorem execYearstep_exits (hp : s.seqAt .decoding 4#4) (h : s.blk.d.toNat < ylen s.blk.leap) :
    execYearstep s = .next (afterCompute { s.blk with pc := ⟨.decoding, 5#4⟩ } s) := by
  rw [execYearstep, atSeq_eq_next _ _ _ hp.1 hp.2, if_neg (Nat.not_le.mpr h)]
  rfl

theorem execDoyset_in_place (hp : s.seqAt .decoding 5#4) :
    execDoyset s = .next (afterCompute { s.blk with
      cm := { s.blk.cm with doy := (s.blk.d + 1#32).setWidth 9 }
      pc := ⟨.decoding, 6#4⟩ } s) :=
  atSeq_eq_next _ _ _ hp.1 hp.2

theorem execFebfix_in_place (hp : s.seqAt .decoding 6#4) :
    execFebfix s = .next (afterCompute { s.blk with
      mdays := { s.blk.mdays with m2 := february s.blk.leap }
      pc := ⟨.decoding, 7#4⟩ } s) :=
  atSeq_eq_next _ _ _ hp.1 hp.2

/-! ## The results in natural numbers -/

/-- Entry DAYS mod 7 of WDTAB (R36), as the spec lists the table. -/
theorem wdtab_eq_getElem {i : Nat} (h : i < 7) : wdtab i = [4#3, 5#3, 6#3, 0#3, 1#3, 2#3, 3#3][i]? := by
  interval_cases i <;> rfl

/-- The Gregorian rule (R13) as a proposition. -/
theorem isLeap_eq_decide (y : Nat) : isLeap y = decide ((y % 4 = 0 ∧ y % 100 ≠ 0) ∨ y % 400 = 0) := by
  simp only [isLeap, Bool.decide_or, Bool.decide_and, ne_eq, decide_not]
  rfl

/-- A subtracting step of the year loop in natural numbers, from a year whose successor the register can hold. -/
theorem nextYear_eq {b : Block} (h : ylen b.leap ≤ b.d.toNat) (hy : b.cm.year.toNat + 1 < 65536) :
    nextYear b = { b with
      d := BitVec.ofNat 32 (b.d.toNat - ylen b.leap)
      leapDays := BitVec.ofNat 8 (b.leapDays.toNat + if b.leap then 1 else 0)
      cm := { b.cm with year := BitVec.ofNat 16 (b.cm.year.toNat + 1) }
      leap := isLeap (b.cm.year.toNat + 1) } := by
  have hyear : b.cm.year + 1#16 = BitVec.ofNat 16 (b.cm.year.toNat + 1) := by
    rw [BitVec.ofNat_add, BitVec.ofNat_toNat, BitVec.setWidth_eq]
  have hrest : b.d - BitVec.ofNat 32 (ylen b.leap) = BitVec.ofNat 32 (b.d.toNat - ylen b.leap) := by
    have hlen := ylen_bounds b.leap
    rw [← BitVec.ofNat_sub_ofNat_of_le _ _ (by omega) h, BitVec.ofNat_toNat, BitVec.setWidth_eq]
  have hcount : (if b.leap then b.leapDays + 1#8 else b.leapDays) =
      BitVec.ofNat 8 (b.leapDays.toNat + if b.leap then 1 else 0) := by
    cases b.leap <;> simp [BitVec.ofNat_add]
  have hfits : (BitVec.ofNat 16 (b.cm.year.toNat + 1)).toNat = b.cm.year.toNat + 1 :=
    Nat.mod_eq_of_lt hy
  simp only [nextYear, hyear, hfits, hrest, hcount]

/-- The date: what is left of the day of the year after the months before it. -/
theorem date_eq_ofNat {doy : BitVec 9} {before : Nat} (h : before ≤ doy.toNat) :
    (doy.setWidth 16 - BitVec.ofNat 16 before).setWidth 5 = BitVec.ofNat 5 (doy.toNat - before) := by
  have hdoy := doy.isLt
  rw [← BitVec.ofNat_toNat 16, BitVec.ofNat_sub_ofNat_of_le _ _ (by omega) h, ← BitVec.ofNat_toNat, BitVec.toNat_ofNat,
    Nat.mod_eq_of_lt (by omega)]

/-- In the table that FEBFIX leaves MONSCAN finds the first month whose cumulative total reaches the day. -/
theorem foundMonth_eq {b : Block} {m : Nat} (ht : b.mdays = MonthTable.withFebruary (february b.leap)) (h1 : 1 ≤ m)
    (h12 : m ≤ 12) (hreach : b.cm.doy.toNat ≤ daysThrough b.leap m)
    (hfirst : ∀ k, 1 ≤ k → k < m → daysThrough b.leap k < b.cm.doy.toNat) :
    b.foundMonth = some (BitVec.ofNat 4 m, BitVec.ofNat 16 (daysThrough b.leap m),
      BitVec.ofNat 16 (daysThrough b.leap (m - 1))) := by
  have hday : (b.cm.doy.setWidth 16).toNat = b.cm.doy.toNat := BitVec.toNat_setWidth_of_le (by decide)
  rw [Block.foundMonth, ht]
  rw [← hday] at hreach hfirst
  exact monthScan_from b.leap (Nat.le_refl 1) h1 h12 hreach hfirst

/-! ## The statements -/

/-- Settles O4: `sub_18000_toNat` is the wrapping difference. -/
theorem tzsubSubtractsTheOffset : Obligations.TzsubSubtractsTheOffset := by
  refine ⟨fun _ => rfl, fun s hi hp => ?_⟩
  rw [← sub_18000_toNat, BitVec.ofNat_toNat, BitVec.setWidth_eq]
  exact execTzsub_in_place ⟨hi, hp⟩

/-- Settles O5: quotients and remainders of words are those of their numbers. -/
theorem hmsSplitsSecondsIntoClockAndDays : Obligations.HmsSplitsSecondsIntoClockAndDays := by
  refine ⟨fun _ => rfl, fun s hi hp => (execHms_in_place ⟨hi, hp⟩).trans ?_⟩
  have hdays : s.blk.e / 86400#32 = BitVec.ofNat 32 (s.blk.e.toNat / 86400) := BitVec.udiv_def
  simp only [hdays, ← BitVec.ofNat_toNat, BitVec.toNat_umod, BitVec.toNat_udiv, BitVec.toNat_ofNat]
  rfl

/-- Settles O6: a remainder modulo 7 is an index of the table. -/
theorem wdayReadsTheWeekdayTable : Obligations.WdayReadsTheWeekdayTable := by
  refine ⟨fun _ => rfl, fun s hi hp => ?_⟩
  have hindex : s.blk.days.toNat % 7 < 7 := Nat.mod_lt _ (by decide)
  have hentry := wdtab_eq hindex
  refine ⟨_, (wdtab_eq_getElem hindex).symm.trans hentry, ?_, execWday_entry ⟨hi, hp⟩ hentry⟩
  rw [BitVec.toNat_ofNat]
  omega

/-- Settles O7: YEARINIT in its place; 1970 is no leap year. -/
theorem yearinitStartsAt1970 : Obligations.YearinitStartsAt1970 :=
  ⟨fun _ => rfl, fun _ hi hp => execYearinit_in_place ⟨hi, hp⟩⟩

/-- Settles O8: the loop's two cases, the subtracting one by `nextYear_eq`. -/
theorem yearstepTestsAndSubtracts : Obligations.YearstepTestsAndSubtracts := by
  refine ⟨fun _ => rfl, fun s len y hi hp hlen hy => ?_⟩
  obtain rfl : len = ylen s.blk.leap := hlen
  subst hy
  refine ⟨fun hd hyear _ => ?subtracts, execYearstep_exits ⟨hi, hp⟩⟩
  case subtracts =>
    have hstep := execYearstep_subtracts ⟨hi, hp⟩ hd
    rw [nextYear_eq hd hyear, isLeap_eq_decide] at hstep
    exact hstep

/-- Settles O9: DOYSET and FEBFIX in their places; a day count of one year fits the register DOY with its successor. -/
theorem doysetAndFebfixPrepareTheScan : Obligations.DoysetAndFebfixPrepareTheScan := by
  refine ⟨fun _ => ⟨rfl, rfl⟩, fun s hi => ⟨fun hp => ?doyset, fun hp => execFebfix_in_place ⟨hi, hp⟩⟩⟩
  case doyset =>
    refine ⟨_, execDoyset_in_place ⟨hi, hp⟩, fun hd => ?_, rfl⟩
    simp only [afterCompute, BitVec.toNat_setWidth, BitVec.toNat_add, BitVec.toNat_ofNat]
    omega

/-- Settles O10: the months before the one found end before the day, so the date does not go below 0. -/
theorem monscanFindsMonthAndDate : Obligations.MonscanFindsMonthAndDate := by
  refine ⟨fun _ => rfl, fun s m hi hp ht _ h1 h12 hreach hfirst => ?_⟩
  have hbefore : daysThrough s.blk.leap (m - 1) ≤ s.blk.cm.doy.toNat := by
    obtain rfl | hlater : m = 1 ∨ 1 ≤ m - 1 := by omega
    · exact Nat.zero_le _
    · exact Nat.le_of_lt (hfirst _ hlater (by omega))
  rw [← date_eq_ofNat hbefore]
  exact execMonscan_found ⟨hi, hp⟩ (foundMonth_eq ht h1 h12 hreach hfirst)

end Sys2Proof.Machine
end

section
/-! PROOFS. The tick path (42_dispatch R155): runs of SEQ's turns, what each turn of the path does, the whole decode as a run
(41_decoder R120), and the path assembled from its phases. -/

namespace Sys2Proof.Machine

variable {s t u : State} {i : Instr} {m n : Nat}

/-! ## Runs of SEQ's turns -/

/-- `n` turns of SEQ alone lead from `s` to `t`. The operations' words and results on the ports are left free; everything
else of `t` is meant. -/
def SeqRun (n : Nat) (s t : State) : Prop :=
  ∀ p, ∃ q, runMoves (List.replicate n .seq) (s.withPort p) = .next (t.withPort q)

theorem SeqRun.trans (h : SeqRun m s t) (h' : SeqRun n t u) : SeqRun (m + n) s u := by
  intro p
  obtain ⟨q, hq⟩ := h p
  obtain ⟨r, hr⟩ := h' q
  rw [List.replicate_add]
  exact ⟨r, (runMoves_append hq).trans hr⟩

/-- The same run with its count and its end state written otherwise. -/
theorem SeqRun.of_eq (h : SeqRun m s t) (hn : m = n) (ht : t = u) : SeqRun n s u := hn ▸ ht ▸ h

theorem goto_self {st : SeqState} {k : BitVec 4} (hp : s.blk.pc = ⟨st, k⟩) : s.goto st k = s := by
  rw [State.goto, ← hp]
  rfl

/-- A turn of SEQ outside Idle is the operation that the table lists at its pc (R170). -/
theorem SeqRun.turn {st : SeqState} {k : BitVec 4} (hp : s.blk.pc = ⟨st, k⟩) (hst : st ≠ .idle)
    (hi : seqInstr (s.goto st k) = some i)
    (hx : ∀ p, (s.withPort p).seqAt st k → ∃ q, exec i (s.withPort p) = .next (t.withPort q)) : SeqRun 1 s t := by
  intro p
  rw [goto_self hp] at hi
  have hidle : s.blk.pc ≠ ⟨.idle, 0#4⟩ := by simp [hp, hst]
  obtain ⟨q, hq⟩ := hx (issued .seq i (s.withPort p)).port ⟨rfl, hp⟩
  exact ⟨q, runMoves_singleton ((seqMove_issues (s := s.withPort p) hidle hi).trans hq)⟩

/-! ## Entry (R150 to R153) -/

theorem execRdflags_tick (hp : s.seqAt .entry 0#4) (h : s.cri.tickf = true) :
    execRdflags s = .next ((s.goto .entry 1#4).answer (flagsRes s.cri.tickf s.cri.alrf)) := by
  rw [execRdflags, atSeq_eq_next _ _ _ hp.1 hp.2, if_pos h]

/-- With the display ready the read follows DSPRDY at once, or after CLRTICK under clear point ENTRY (R152). -/
theorem execDsprdy_ready (hp : s.seqAt .entry 1#4) (h : s.side.displayReady = true) :
    execDsprdy s = .next ((s.withBlk { s.blk with
      ready := true
      pc := if s.cfg.clearPoint = .entry then ⟨.entry, 2#4⟩ else ⟨.reading, 0#4⟩ }).answer (flagRes true)) := by
  rw [execDsprdy, atSeq_eq_next _ _ _ hp.1 hp.2, h]
  cases s.cfg.clearPoint with
  | entry => rfl
  | exit => rfl

/-- The earlier of CLRTICK's two places (R153), with the display found ready: the read follows. -/
theorem execClrtick_at_entry_ready (hp : s.seqAt .entry 2#4) (h : s.blk.ready = true) :
    execClrtick s = .next (((s.withCri (clearTick s.cri)).answer .none).goto .reading 0#4) := by
  simp only [execClrtick, if_pos hp]
  exact congrArg _ (if_pos h)

theorem seqRun_vector (hp : s.blk.pc = ⟨.idle, 0#4⟩) (he : vectorEnabled s = true) : SeqRun 1 s (s.goto .entry 0#4) :=
  fun p => ⟨p, runMoves_singleton ((if_pos hp).trans (congrArg _ (if_pos he)))⟩

theorem seqRun_rdflags_tick (hp : s.blk.pc = ⟨.entry, 0#4⟩) (h : s.cri.tickf = true) :
    SeqRun 1 s (s.goto .entry 1#4) :=
  .turn hp (by decide) rfl fun _ hat => ⟨_, execRdflags_tick hat h⟩

theorem seqRun_dsprdy_ready (hp : s.blk.pc = ⟨.entry, 1#4⟩) (h : s.side.displayReady = true) :
    SeqRun 1 s (s.withBlk { s.blk with
      ready := true
      pc := if s.cfg.clearPoint = .entry then ⟨.entry, 2#4⟩ else ⟨.reading, 0#4⟩ }) :=
  .turn hp (by decide) rfl fun _ hat => ⟨_, execDsprdy_ready hat h⟩

theorem seqRun_clrtick_at_entry (hp : s.blk.pc = ⟨.entry, 2#4⟩) (h : s.blk.ready = true) :
    SeqRun 1 s ((s.withCri (clearTick s.cri)).goto .reading 0#4) :=
  .turn hp (by decide) rfl fun _ hat => ⟨_, execClrtick_at_entry_ready hat h⟩

theorem seqRun_clrtick_at_rendering (hp : s.blk.pc = ⟨.rendering, 5#4⟩) :
    SeqRun 1 s (returnToIdle (s.withCri (clearTick s.cri))) :=
  .turn hp (by decide) rfl fun _ hat => ⟨_, execClrtick_at_rendering hat⟩

/-! ## The read of a counter that stands still (R103) -/

/-- A read with the registers synchronised makes no draw (R72). -/
theorem afterRead_synced (hr : s.cri.rsf = true) (v : Half) (b : Block) :
    afterRead v b s = (s.withBlk b).withPort { s.port with res := .q16 v } := by
  simp only [afterRead, if_pos hr]
  rfl

theorem execRdh_first_synced (hp : s.seqAt .reading 0#4) (hr : s.cri.rsf = true) :
    execRdh s = .next ((s.withBlk { s.blk with h1 := cnth s, pc := ⟨.reading, 1#4⟩ }).withPort
      { s.port with res := .q16 (cnth s) }) := by
  rw [execRdh_first hp, counterHigh_synced hr, afterRead_synced hr]

theorem execRdl_first_synced (hp : s.seqAt .reading 1#4) (hr : s.cri.rsf = true) :
    execRdl s = .next ((s.withBlk { s.blk with l1 := cntl s, pc := ⟨.reading, 2#4⟩ }).withPort
      { s.port with res := .q16 (cntl s) }) := by
  rw [execRdl_first hp, counterLow_synced hr, afterRead_synced hr]

/-- The second high read finds the high half unchanged, so that the low half is not read again. -/
theorem execRdh_second_synced (hp : s.seqAt .reading 2#4) (hr : s.cri.rsf = true) (hsame : s.blk.h1 = cnth s) :
    execRdh s = .next ((s.withBlk { s.blk with h2 := cnth s, pc := ⟨.reading, 4#4⟩ }).withPort
      { s.port with res := .q16 (cnth s) }) := by
  rw [execRdh_second hp, counterHigh_synced hr, afterRead_synced hr, if_neg (not_not.mpr hsame)]

theorem seqRun_first_high (hp : s.blk.pc = ⟨.reading, 0#4⟩) (hr : s.cri.rsf = true) :
    SeqRun 1 s (s.withBlk { s.blk with h1 := cnth s, pc := ⟨.reading, 1#4⟩ }) :=
  .turn hp (by decide) rfl fun _ hat => ⟨_, execRdh_first_synced hat hr⟩

theorem seqRun_first_low (hp : s.blk.pc = ⟨.reading, 1#4⟩) (hr : s.cri.rsf = true) :
    SeqRun 1 s (s.withBlk { s.blk with l1 := cntl s, pc := ⟨.reading, 2#4⟩ }) :=
  .turn hp (by decide) rfl fun _ hat => ⟨_, execRdl_first_synced hat hr⟩

theorem seqRun_same_high (hp : s.blk.pc = ⟨.reading, 2#4⟩) (hr : s.cri.rsf = true) (hsame : s.blk.h1 = cnth s) :
    SeqRun 1 s (s.withBlk { s.blk with h2 := cnth s, pc := ⟨.reading, 4#4⟩ }) :=
  .turn hp (by decide) rfl fun _ hat => ⟨_, execRdh_second_synced hat hr hsame⟩

theorem seqRun_asm32 (hp : s.blk.pc = ⟨.reading, 4#4⟩) :
    SeqRun 1 s (s.withBlk { s.blk with raw := reassembled s.blk, pc := ⟨.decoding, 0#4⟩ }) :=
  .turn hp (by decide) rfl fun _ hat => ⟨_, execAsm32_in_place hat⟩

/-- The block after a read with no increment inside: RAW is CNT. -/
def blockRead (s : State) : Block :=
  { s.blk with h1 := cnth s, l1 := cntl s, h2 := cnth s, raw := s.cri.cnt, pc := ⟨.decoding, 0#4⟩ }

theorem seqRun_read (hp : s.blk.pc = ⟨.reading, 0#4⟩) (hr : s.cri.rsf = true) : SeqRun 4 s (s.withBlk (blockRead s)) := by
  have hhigh := (seqRun_first_high hp hr).trans (seqRun_first_low rfl hr)
  have hall := (hhigh.trans (seqRun_same_high rfl hr rfl)).trans (seqRun_asm32 rfl)
  have hraw : reassembled { s.blk with h1 := cnth s, l1 := cntl s, h2 := cnth s } = s.cri.cnt :=
    (reassembled_same rfl).trans (joinHalves_halves s)
  exact hall.of_eq rfl (by rw [blockRead, ← hraw]; rfl)

/-! ## The decode (R120) -/

/-- SEQ is at `pc` in the decode of the counter value `v`, and the registers hold what has been computed so far. -/
structure DecodeAt (v : Word) (pc : Pc) (b : Block) : Prop where
  sound : BlockSound b
  place : b.pc = pc
  value : b.raw = v

/-- From every state with a block of `P`, `n` turns of SEQ lead to a block of `Q` and write nothing but the block. -/
def BlockRun (n : Nat) (P Q : Block → Prop) : Prop := ∀ s, P s.blk → ∃ b, SeqRun n s (s.withBlk b) ∧ Q b

theorem BlockRun.trans {P Q R : Block → Prop} (h : BlockRun m P Q) (h' : BlockRun n Q R) : BlockRun (m + n) P R := by
  intro s hs
  obtain ⟨b, hrun, hb⟩ := h s hs
  obtain ⟨b', hrun', hb'⟩ := h' (s.withBlk b) hb
  exact ⟨b', hrun.trans hrun', hb'⟩

variable {v : Word} {j k : Nat}

/-- A turn of the decode is the compute step that the table lists there; `b` is the block as it leaves it. -/
theorem DecodeAt.turn {step : BitVec 4} {b : Block} {Q : Block → Prop} (h : DecodeAt v ⟨.decoding, step⟩ s.blk) (hb : Q b)
    (hi : seqInstr (s.goto .decoding step) = some i)
    (hx : ∀ p, (s.withPort p).seqAt .decoding step → exec i (s.withPort p) = .next (afterCompute b (s.withPort p))) :
    ∃ b, SeqRun 1 s (s.withBlk b) ∧ Q b :=
  ⟨b, .turn h.place (by decide) hi fun p hat => ⟨_, hx p hat⟩, hb⟩

theorem blockRun_tzsub : BlockRun 1 (DecodeAt v ⟨.decoding, 0#4⟩) (DecodeAt v ⟨.decoding, 1#4⟩) :=
  fun _ h => h.turn ⟨h.sound.after_tzsub h.place, rfl, h.value⟩ rfl fun _ => execTzsub_in_place

theorem blockRun_hms : BlockRun 1 (DecodeAt v ⟨.decoding, 1#4⟩) (DecodeAt v ⟨.decoding, 2#4⟩) :=
  fun _ h => h.turn ⟨h.sound.after_hms h.place, rfl, h.value⟩ rfl fun _ => execHms_in_place

theorem blockRun_wday : BlockRun 1 (DecodeAt v ⟨.decoding, 2#4⟩) (DecodeAt v ⟨.decoding, 3#4⟩) := by
  intro s h
  have hentry := wdtab_eq (Nat.mod_lt s.blk.days.toNat (by decide : 0 < 7))
  exact h.turn ⟨h.sound.after_wday h.place hentry, rfl, h.value⟩ rfl fun _ hat => execWday_entry hat hentry

/-- SEQ is in the year loop, `j` years after 1970. -/
structure YearAt (v : Word) (j : Nat) (b : Block) : Prop extends DecodeAt v ⟨.decoding, 4#4⟩ b where
  year : b.cm.year.toNat = 1970 + j

/-- In the loop D holds the days that are left of the days of `v`. -/
theorem YearAt.days_left {b : Block} (h : YearAt v j b) :
    b.leap = isLeap (1970 + j) ∧ daysOfYears j + b.d.toNat = (v - 18000#32).toNat / 86400 := by
  obtain ⟨-, -, -, hdays⟩ := h.sound.decode.clock (by simp [h.place])
  obtain ⟨-, hleap, hsum, -⟩ := h.sound.decode.years (by simp [h.place])
  rw [h.year] at hleap hsum
  rw [Nat.add_sub_cancel_left] at hsum
  rw [h.value] at hdays
  exact ⟨hleap, hsum.trans hdays⟩

/-- The loop's test: a whole year is left exactly before the year that R136 names. -/
theorem YearAt.year_left_iff {b : Block} (h : YearAt v j b) (hk : (calendar v).year.toNat = 1970 + k) (hj : j ≤ k) :
    ylen b.leap ≤ b.d.toNat ↔ j < k := by
  obtain ⟨k', d, hsum, hd, -, hyear, -⟩ := calendar_year_doy v
  obtain rfl : k' = k := Nat.add_left_cancel (hyear.symm.trans hk)
  obtain ⟨hleap, hleft⟩ := h.days_left
  rw [hleap]
  rw [← hleft] at hsum
  obtain rfl | hlt := Nat.eq_or_lt_of_le hj
  · obtain rfl : d = b.d.toNat := Nat.add_left_cancel hsum
    exact iff_of_false (Nat.not_le.mpr hd) (Nat.lt_irrefl _)
  · obtain ⟨n, rfl⟩ : ∃ n, k' = j + 1 + n := Nat.exists_eq_add_of_le hlt
    have hmono := daysOfYears_le_add (j + 1) n
    rw [daysOfYears] at hmono
    exact iff_of_true (by omega) hlt

theorem blockRun_yearinit : BlockRun 1 (DecodeAt v ⟨.decoding, 3#4⟩) (YearAt v 0) :=
  fun _ h => h.turn ⟨⟨h.sound.after_yearinit h.place, rfl, h.value⟩, rfl⟩ rfl fun _ => execYearinit_in_place

theorem blockRun_nextYear (hk : (calendar v).year.toNat = 1970 + k) (hj : j < k) :
    BlockRun 1 (YearAt v j) (YearAt v (j + 1)) := by
  intro s h
  have hd := (h.year_left_iff hk (Nat.le_of_lt hj)).mpr hj
  have hyear : s.blk.cm.year.toNat + 1 < 65536 := by
    have := (calendar v).year.isLt
    rw [h.year]
    omega
  refine h.turn ⟨⟨h.sound.after_nextYear h.place hd, rfl, h.value⟩, ?_⟩ rfl fun _ hat => execYearstep_subtracts hat hd
  rw [nextYear_eq hd hyear, ← Nat.add_assoc, ← h.year]
  exact Nat.mod_eq_of_lt hyear

theorem blockRun_yearEnd (hk : (calendar v).year.toNat = 1970 + k) :
    BlockRun 1 (YearAt v k) (DecodeAt v ⟨.decoding, 5#4⟩) := by
  intro s h
  have hd := Nat.lt_of_not_le (mt (h.year_left_iff hk (Nat.le_refl _)).mp (Nat.lt_irrefl _))
  exact h.turn ⟨h.sound.after_yearEnd h.place hd, rfl, h.value⟩ rfl fun _ hat => execYearstep_exits hat hd

/-- The year loop from any year on that it comes through. -/
theorem blockRun_yearLoop (hk : (calendar v).year.toNat = 1970 + k) (h : j + n = k) :
    BlockRun (n + 1) (YearAt v j) (DecodeAt v ⟨.decoding, 5#4⟩) := by
  induction n generalizing j with
  | zero =>
    obtain rfl : j = k := h
    exact blockRun_yearEnd hk
  | succ n ih =>
    rw [Nat.add_comm]
    exact (blockRun_nextYear hk (by omega)).trans (ih (by omega))

theorem blockRun_doyset : BlockRun 1 (DecodeAt v ⟨.decoding, 5#4⟩) (DecodeAt v ⟨.decoding, 6#4⟩) :=
  fun _ h => h.turn ⟨h.sound.after_doyset h.place, rfl, h.value⟩ rfl fun _ => execDoyset_in_place

theorem blockRun_febfix : BlockRun 1 (DecodeAt v ⟨.decoding, 6#4⟩) (DecodeAt v ⟨.decoding, 7#4⟩) :=
  fun _ h => h.turn ⟨h.sound.after_febfix h.place, rfl, h.value⟩ rfl fun _ => execFebfix_in_place

theorem blockRun_monscan : BlockRun 1 (DecodeAt v ⟨.decoding, 7#4⟩) (DecodeAt v ⟨.rendering, 0#4⟩) := by
  intro s h
  have hscan := h.sound.monthScan_eq h.place
  exact h.turn ⟨h.sound.after_monscan h.place hscan, rfl, h.value⟩ rfl fun _ hat => execMonscan_found hat hscan

/-- The whole decode takes eight turns and one for each year past 1970 (R266). -/
theorem blockRun_decode (hk : (calendar v).year.toNat = 1970 + k) :
    BlockRun (8 + k) (DecodeAt v ⟨.decoding, 0#4⟩) (DecodeAt v ⟨.rendering, 0#4⟩) := by
  have hstart := ((blockRun_tzsub.trans blockRun_hms).trans blockRun_wday).trans (blockRun_yearinit (v := v))
  have hyears := hstart.trans (blockRun_yearLoop hk (Nat.zero_add k))
  have hall := ((hyears.trans blockRun_doyset).trans blockRun_febfix).trans blockRun_monscan
  have hcount : 1 + 1 + 1 + 1 + (k + 1) + 1 + 1 + 1 = 8 + k := by omega
  exact hcount ▸ hall

/-! ## Rendering (R158, R162 to R164) -/

theorem execClrbuf_in_place (hp : s.seqAt .rendering 0#4) :
    execClrbuf s = .next (((s.withSide { s.side with dbuf := [] }).goto .rendering 1#4).answer .none) :=
  atSeq_eq_next _ _ _ hp.1 hp.2

theorem execDrawtext_in_place {pos : Pos} {text : Text} (hp : s.InPlace (.drawtext pos text)) :
    execDrawtext pos text s = .next (((s.withSide { s.side with dbuf := s.side.dbuf ++ [⟨pos, text⟩] }).goto .rendering
      (s.blk.pc.step + 1#4)).answer .none) := if_pos hp

theorem execCommit_exit (hp : s.seqAt .rendering 4#4) (hc : s.cfg.clearPoint = .exit) :
    execCommit s = .next (((s.withSide { s.side with panel := s.side.dbuf }).answer .none).goto .rendering 5#4) := by
  rw [execCommit, atSeq_eq_next _ _ _ hp.1 hp.2, hc]

theorem execCommit_entry (hp : s.seqAt .rendering 4#4) (hc : s.cfg.clearPoint = .entry) :
    execCommit s = .next (returnToIdle ((s.withSide { s.side with panel := s.side.dbuf }).answer .none)) := by
  rw [execCommit, atSeq_eq_next _ _ _ hp.1 hp.2, hc]

theorem seqRun_clrbuf (hp : s.blk.pc = ⟨.rendering, 0#4⟩) :
    SeqRun 1 s ((s.withSide { s.side with dbuf := [] }).goto .rendering 1#4) :=
  .turn hp (by decide) rfl fun _ hat => ⟨_, execClrbuf_in_place hat⟩

theorem seqRun_drawtext {k : BitVec 4} {pos : Pos} {text : Text} (hp : s.blk.pc = ⟨.rendering, k⟩)
    (hk : k = 1#4 ∨ k = 2#4 ∨ k = 3#4) (hi : seqInstr (s.goto .rendering k) = some (.drawtext pos text)) :
    SeqRun 1 s ((s.withSide { s.side with dbuf := s.side.dbuf ++ [⟨pos, text⟩] }).goto .rendering (k + 1#4)) := by
  refine .turn hp (by decide) hi fun p hat => ?_
  have hplace : (s.withPort p).InPlace (.drawtext pos text) := by
    obtain rfl | rfl | rfl := hk
    · exact .inl hat
    · exact .inr (.inl hat)
    · exact .inr (.inr hat)
  have hexec := execDrawtext_in_place hplace
  rw [hat.2] at hexec
  exact ⟨_, hexec⟩

/-- The four turns before COMMIT put the frame of the moment into DBUF. -/
theorem seqRun_draw (hp : s.blk.pc = ⟨.rendering, 0#4⟩) :
    SeqRun 4 s ((s.withSide { s.side with dbuf := frame s.blk.cm }).goto .rendering 4#4) := by
  have htop := (seqRun_clrbuf hp).trans (seqRun_drawtext rfl (.inl rfl) rfl)
  have hsecond := htop.trans (seqRun_drawtext rfl (.inr (.inl rfl)) rfl)
  exact hsecond.trans (seqRun_drawtext rfl (.inr (.inr rfl)) rfl)

theorem seqRun_commit_exit (hp : s.blk.pc = ⟨.rendering, 4#4⟩) (hc : s.cfg.clearPoint = .exit) :
    SeqRun 1 s ((s.withSide { s.side with panel := s.side.dbuf }).goto .rendering 5#4) :=
  .turn hp (by decide) rfl fun _ hat => ⟨_, execCommit_exit hat hc⟩

theorem seqRun_commit_entry (hp : s.blk.pc = ⟨.rendering, 4#4⟩) (hc : s.cfg.clearPoint = .entry) :
    SeqRun 1 s (returnToIdle (s.withSide { s.side with panel := s.side.dbuf })) :=
  .turn hp (by decide) rfl fun _ hat => ⟨_, execCommit_entry hat hc⟩

/-! ## The whole path -/

/-- From the first read to the drawn frame: the counter value `v` is read and decoded, and its calendar moment drawn. -/
theorem seqRun_show (hk : (calendar v).year.toNat = 1970 + k) (hv : s.cri.cnt = v) (hp : s.blk.pc = ⟨.reading, 0#4⟩)
    (hm : s.blk.mdays.wf = true) (hr : s.cri.rsf = true) :
    ∃ b, SeqRun (16 + k) s ((s.withBlk b).withSide { s.side with dbuf := frame (calendar v) }) ∧
      b.pc = ⟨.rendering, 4#4⟩ ∧ b.raw = v ∧ b.cm = calendar v := by
  have hread := seqRun_read hp hr
  have hbegin : DecodeAt v ⟨.decoding, 0#4⟩ (blockRead s) := ⟨.outside rfl hm rfl, rfl, hv⟩
  obtain ⟨b, hdecode, hb⟩ := blockRun_decode hk (s.withBlk (blockRead s)) hbegin
  have hcm : b.cm = calendar v := hb.value ▸ hb.sound.decode.moment (by simp [hb.place])
  have hall := (hread.trans hdecode).trans (seqRun_draw hb.place)
  exact ⟨{ b with pc := ⟨.rendering, 4#4⟩ }, hall.of_eq (by omega) (by rw [← hcm]; rfl), rfl, hb.value, hcm⟩

/-- The first three turns: the tick is found first, then the display ready. -/
theorem seqRun_enter (hp : s.blk.pc = ⟨.idle, 0#4⟩) (hh : s.side.hreg = true) (hf : s.cri.tickf = true)
    (he : s.cri.tickie = true) (hd : s.side.displayReady = true) :
    SeqRun 3 s (s.withBlk { s.blk with
      ready := true
      pc := if s.cfg.clearPoint = .entry then ⟨.entry, 2#4⟩ else ⟨.reading, 0#4⟩ }) := by
  have hvector : vectorEnabled s = true := by simp [vectorEnabled, hh, hf, he]
  exact ((seqRun_vector hp hvector).trans (seqRun_rdflags_tick rfl hf)).trans (seqRun_dsprdy_ready rfl hd)

/-- The whole path, for either place of CLRTICK: the same turns and the same end, in another order. -/
theorem seqRun_tick (hk : (calendar s.cri.cnt).year.toNat = 1970 + k) (hp : s.blk.pc = ⟨.idle, 0#4⟩)
    (hm : s.blk.mdays.wf = true) (hh : s.side.hreg = true) (hf : s.cri.tickf = true) (he : s.cri.tickie = true)
    (hd : s.side.displayReady = true) (hr : s.cri.rsf = true) :
    ∃ b, SeqRun (21 + k) s
        (((s.withCri (clearTick s.cri)).withBlk b).withSide { s.side with
          dbuf := frame (calendar s.cri.cnt), panel := frame (calendar s.cri.cnt) }) ∧
      b.pc = ⟨.idle, 0#4⟩ ∧ b.raw = s.cri.cnt ∧ b.cm = calendar s.cri.cnt := by
  have henter := seqRun_enter hp hh hf he hd
  cases hc : s.cfg.clearPoint with
  | exit =>
    rw [hc, if_neg (by decide)] at henter
    obtain ⟨b, hshow, hpc, hraw, hcm⟩ := seqRun_show
      (s := s.withBlk { s.blk with ready := true, pc := ⟨.reading, 0#4⟩ }) hk rfl rfl hm hr
    have hcommit := (henter.trans hshow).trans (seqRun_commit_exit hpc hc)
    have hall := hcommit.trans (seqRun_clrtick_at_rendering rfl)
    exact ⟨{ b with pc := ⟨.idle, 0#4⟩ }, hall.of_eq (by omega) rfl, rfl, hraw, hcm⟩
  | entry =>
    rw [hc, if_pos rfl] at henter
    have hclear := henter.trans (seqRun_clrtick_at_entry rfl rfl)
    obtain ⟨b, hshow, hpc, hraw, hcm⟩ := seqRun_show
      (s := (s.withCri (clearTick s.cri)).withBlk { s.blk with ready := true, pc := ⟨.reading, 0#4⟩ }) hk rfl rfl hm hr
    have hall := (hclear.trans hshow).trans (seqRun_commit_entry hpc hc)
    exact ⟨{ b with pc := ⟨.idle, 0#4⟩ }, hall.of_eq (by omega) rfl, rfl, hraw, hcm⟩

/-- Settles O56: the path of `seqRun_tick`, whose end state names every register that it writes. -/
theorem fullTickShowsTheCounter : Obligations.FullTickShowsTheCounter := by
  intro s cm hp hm hh hf he hd hr hcm
  subst hcm
  obtain ⟨k, -, -, -, -, hk, -⟩ := calendar_year_doy s.cri.cnt
  obtain ⟨b, hrun, hpc, hraw, hb⟩ := seqRun_tick hk hp hm hh hf he hd hr
  obtain ⟨q, hq⟩ := hrun s.port
  rw [hk, Nat.add_sub_cancel_left]
  exact ⟨_, hq, hpc, rfl, hraw, hb, rfl, rfl, rfl, rfl⟩

end Sys2Proof.Machine
end

section
/-! PROOFS. The operations of the dispatch family (42_dispatch R150 to R169), each in its places: what it answers, what it
writes, and where SEQ, HOST or EDGE goes on. -/

namespace Sys2Proof.Machine

variable {s : State}

/-! ## Results on the port (R81) -/

theorem flagRes_eq (b : Bool) : flagRes b = .q1 (BitVec.ofNat 1 b.toNat) := by cases b <;> rfl

/-- Two flags in RES, the first one in bit 1. -/
theorem flagsRes_eq (first second : Bool) :
    flagsRes first second = .q2 (BitVec.ofNat 2 (2 * first.toNat + second.toNat)) := by
  cases first <;> cases second <;> rfl

/-! ## Entry (R150 to R154) -/

theorem vectorEnabled_iff : vectorEnabled s = true ↔
    s.side.hreg = true ∧ ((s.cri.tickf = true ∧ s.cri.tickie = true) ∨ (s.cri.alrf = true ∧ s.cri.alrie = true)) := by
  simp [vectorEnabled]

theorem seqMove_idle (hp : s.blk.pc = ⟨.idle, 0#4⟩) :
    seqMove s = .next (if vectorEnabled s then enterVector s else s) := if_pos hp

theorem execRdflags_in_place (hp : s.seqAt .entry 0#4) :
    execRdflags s = .next ((s.withBlk { s.blk with
      pc := if s.cri.tickf = true then ⟨.entry, 1#4⟩
        else if s.cri.alrf = true then ⟨.alarmHandling, 0#4⟩ else ⟨.idle, 0#4⟩ }).answer
          (flagsRes s.cri.tickf s.cri.alrf)) := by
  rw [execRdflags, atSeq_eq_next _ _ _ hp.1 hp.2]
  split_ifs <;> rfl

theorem execDsprdy_in_place (hp : s.seqAt .entry 1#4) :
    execDsprdy s = .next ((s.withBlk { s.blk with
      ready := s.side.displayReady
      pc := if s.side.displayReady = false ∨ s.cfg.clearPoint = .entry then ⟨.entry, 2#4⟩ else ⟨.reading, 0#4⟩ }).answer
        (flagRes s.side.displayReady)) := by
  rw [execDsprdy, atSeq_eq_next _ _ _ hp.1 hp.2]
  dsimp only
  split_ifs <;> rfl

/-- The earlier of CLRTICK's two places (R153): the remembered answer of DSPRDY says whether the path goes on. -/
theorem execClrtick_at_entry (hp : s.seqAt .entry 2#4) :
    execClrtick s = .next (((s.withCri (clearTick s.cri)).withBlk { s.blk with
      pc := if s.blk.ready = true then ⟨.reading, 0#4⟩ else ⟨.idle, 0#4⟩ }).answer .none) := by
  simp only [execClrtick, if_pos hp]
  split_ifs <;> rfl

/-! ## The display sink (R162 to R164) -/

/-- DRAWTEXT at the step `k` of Rendering, one of the three that draw. -/
theorem execDrawtext_at {pos : Pos} {text : Text} {k : BitVec 4} (hk : k = 1#4 ∨ k = 2#4 ∨ k = 3#4)
    (hp : s.seqAt .rendering k) :
    execDrawtext pos text s = .next (((s.withSide { s.side with dbuf := s.side.dbuf ++ [⟨pos, text⟩] }).goto .rendering
      (k + 1#4)).answer .none) := by
  have hplace : s.InPlace (.drawtext pos text) := by
    obtain rfl | rfl | rfl := hk
    · exact .inl hp
    · exact .inr (.inl hp)
    · exact .inr (.inr hp)
  have hexec := execDrawtext_in_place hplace
  rw [hp.2] at hexec
  exact hexec

theorem execCommit_in_place (hp : s.seqAt .rendering 4#4) :
    execCommit s = .next (((s.withSide { s.side with panel := s.side.dbuf }).withBlk { s.blk with
      pc := if s.cfg.clearPoint = .exit then ⟨.rendering, 5#4⟩ else ⟨.idle, 0#4⟩ }).answer .none) := by
  cases hc : s.cfg.clearPoint with
  | exit => exact execCommit_exit hp hc
  | entry => exact execCommit_entry hp hc

/-! ## The pins (R166, R167) -/

/-- A write to a pin, field by field. -/
theorem setLevel_eq (h : HostSide) (pin : Pin) (level : Bool) :
    setLevel h pin level = { h with
      relay := if pin = .relay then level else h.relay
      diag := if pin = .diag then level else h.diag
      edgePin := if pin = .edge then level else h.edgePin } := by
  cases pin <;> rfl

theorem execSetlvl_of_seq {pin : Pin} {level : Bool} (hp : s.seqAt .alarmHandling 0#4) :
    execSetlvl pin level s =
      .next (((s.withSide (setLevel s.side pin level)).answer .none).goto .alarmHandling 1#4) := if_pos hp

theorem execSetlvl_of_edge {pin : Pin} {level : Bool} (hi : s.port.issuer = .edge) (hpos : s.edge.pos ≠ .rest)
    (hmay : s.edgeMay) :
    execSetlvl pin level s =
      .next (((s.withSide (setLevel s.side pin level)).answer .none).withEdge { s.edge with pos := .rest }) := by
  have hseq : ¬ s.seqAt .alarmHandling 0#4 := by simp [hi]
  exact (if_neg hseq).trans (if_pos ⟨hi, hpos, hmay⟩)

theorem execRdlvl_in_place {pin : Pin} (hi : s.port.issuer = .edge) (hrest : s.edge.pos = .rest) (hruns : 0 < s.edge.runs)
    (hmay : s.edgeMay) :
    execRdlvl pin s = .next ((s.withEdge { pos := .toggle (levelOf s.side pin), runs := s.edge.runs - 1 }).answer
      (flagRes (levelOf s.side pin))) := if_pos ⟨hi, hrest, hruns, hmay⟩

/-! ## The notices (R169) -/

theorem execLog_of_seq {notice : Notice} (hp : s.seqAt .alarmHandling 1#4) :
    execLog notice s = .next (((s.withSide { s.side with logs := s.side.logs ++ [notice] }).answer .none).goto
      .alarmHandling 2#4) := if_pos hp

/-- The notice of the ready-wait that gave up (R187). -/
theorem execLog_oscTimeout (hp : s.hostAt .oscTimeout) :
    execLog .oscTimeout s =
      .next (((s.withSide { s.side with logs := s.side.logs ++ [.oscTimeout] }).answer .none).hostGoto (.step 6)) := by
  simp [execLog, hp.1, hp.2]

/-! ## The statements -/

/-- A test for 0 is the test for 1 with its branches exchanged. -/
theorem ite_eq_false {α : Type} (b : Bool) (x y : α) : (if b = false then x else y) = if b = true then y else x := by
  cases b <;> rfl

/-- Settles O38: SEQ's turn at (Idle,0) is VECTOR exactly where R150's condition holds. -/
theorem vectorEntersFromIdle : Obligations.VectorEntersFromIdle := by
  refine fun s hp => ⟨fun he => ?_, fun he => ?_⟩
  · exact (seqMove_idle hp).trans (congrArg _ (if_pos (vectorEnabled_iff.mpr he)))
  · exact (seqMove_idle hp).trans (congrArg _ (if_neg (mt vectorEnabled_iff.mp he)))

/-- Settles O12: RDFLAGS in its place, with its two flags as a number. -/
theorem rdflagsTestsTickFirst : Obligations.RdflagsTestsTickFirst := by
  refine ⟨fun _ => rfl, fun s hi hp => ?_⟩
  rw [← flagsRes_eq]
  exact execRdflags_in_place ⟨hi, hp⟩

/-- Settles O13: DSPRDY in its place. -/
theorem dsprdyGuardsTheRead : Obligations.DsprdyGuardsTheRead := by
  refine ⟨fun _ => rfl, fun s hi hp => ?_⟩
  rw [← flagRes_eq]
  exact execDsprdy_in_place ⟨hi, hp⟩

/-- Settles O14: CLRTICK in its two places and CLRALR in its one. -/
theorem flagClearsClearOneFlag : Obligations.FlagClearsClearOneFlag := by
  refine ⟨fun _ => ⟨rfl, rfl⟩, fun s hi => ⟨fun hp => ?_, fun hp => ?_, fun hp => ?_⟩⟩
  · rw [ite_eq_false]
    exact execClrtick_at_entry ⟨hi, hp⟩
  · exact execClrtick_at_rendering ⟨hi, hp⟩
  · exact execClralr_in_place ⟨hi, hp⟩

/-- Settles O15: CLRBUF in its place. -/
theorem clrbufEmptiesTheBuffer : Obligations.ClrbufEmptiesTheBuffer :=
  ⟨fun _ => rfl, fun _ hi hp => execClrbuf_in_place ⟨hi, hp⟩⟩

/-- Settles O16: DRAWTEXT in each of its three places. -/
theorem drawtextAppendsToTheBuffer : Obligations.DrawtextAppendsToTheBuffer :=
  ⟨fun _ => rfl, fun _ _ _ _ hi hk hp => execDrawtext_at hk ⟨hi, hp⟩⟩

/-- Settles O17: COMMIT in its place. -/
theorem commitCopiesTheBuffer : Obligations.CommitCopiesTheBuffer :=
  ⟨fun _ => rfl, fun _ hi hp => execCommit_in_place ⟨hi, hp⟩⟩

/-- Settles O18: SETLVL issued by SEQ and by EDGE, with the write of the pin field by field. -/
theorem setlvlDrivesOnePin : Obligations.SetlvlDrivesOnePin := by
  refine ⟨fun _ => rfl, fun s t pin level h => ?_⟩
  obtain ⟨hi, hp, rfl⟩ | ⟨hi, hpos, hmay, rfl⟩ := h
  · rw [← setLevel_eq]
    exact execSetlvl_of_seq ⟨hi, hp⟩
  · rw [← setLevel_eq]
    exact execSetlvl_of_edge hi hpos hmay

/-- Settles O19: RDLVL where EDGE begins its run. -/
theorem rdlvlReadsOnePin : Obligations.RdlvlReadsOnePin := by
  refine ⟨fun _ => rfl, fun s pin l hi hrest hruns hmay hl => ?_⟩
  obtain rfl : l = levelOf s.side pin := hl.trans (by cases pin <;> rfl)
  rw [← flagRes_eq]
  exact execRdlvl_in_place hi hrest hruns hmay

/-- Settles O20: LOG in each of its three places. -/
theorem logAppendsTheNotice : Obligations.LogAppendsTheNotice :=
  ⟨fun _ => rfl, fun _ _ => ⟨fun hi hp => execLog_of_seq ⟨hi, hp⟩, fun hi hp => execLog_oscTimeout ⟨hi, hp⟩,
    fun hi _ houtcome => execLog_displayInit hi houtcome⟩⟩

end Sys2Proof.Machine
end

section
/-! PROOFS. The transition table (42_dispatch R170): an operation that SEQ issues where its sequence lists it takes pc to the
table's successor, and the table leads from listed pcs to listed pcs. -/

namespace Sys2Proof.Machine

variable {s t : State} {i : Instr}

/-! ## What an agent's turn is -/

/-- Every turn of SEQ: VECTOR or nothing at (Idle,0), elsewhere the operation that is listed there. -/
theorem seqMove_cases (h : seqMove s = .next t) :
    (s.blk.pc = ⟨.idle, 0#4⟩ ∧ t = if vectorEnabled s then enterVector s else s) ∨
      (s.blk.pc ≠ ⟨.idle, 0#4⟩ ∧ ∃ i, seqInstr s = some i ∧ exec i (issued .seq i s) = .next t) := by
  by_cases hp : s.blk.pc = ⟨.idle, 0#4⟩
  · exact .inl ⟨hp, (Host.Outcome.next.inj ((seqMove_idle hp).symm.trans h)).symm⟩
  · cases hi : seqInstr s with
    | none => simp [seqMove, hp, hi] at h
    | some i => exact .inr ⟨hp, i, rfl, seqMove_issues hp hi ▸ h⟩

/-- SEQ's turn at a pc outside Idle, by the table's row. -/
theorem seqMove_at {st : SeqState} {k : BitVec 4} (hp : s.blk.pc = ⟨st, k⟩) (hst : st ≠ .idle)
    (hi : seqInstr (s.goto st k) = some i) : seqMove s = exec i (issued .seq i s) :=
  seqMove_issues (by simp [hp, hst]) (goto_self hp ▸ hi)

/-! ## The table -/

/-- The row of the table at a pc. -/
theorem tableNext_at {st : SeqState} {k : BitVec 4} (hp : s.blk.pc = ⟨st, k⟩) : tableNext s t = tableNext (s.goto st k) t := by
  rw [goto_self hp]

/-- R170 leads from its own pcs to its own pcs. -/
theorem listedPc_tableNext (hl : listedPc s.blk.pc = true) : listedPc (tableNext s t) = true := by
  unfold tableNext
  split
  case h_15 =>
    -- The row that goes on by one step: it is left only where the state has another step.
    cases hst : s.blk.pc.state
    all_goals
      simp [listedPc, hst] at *
      omega
  all_goals (try split_ifs) <;> rfl

/-! ## SEQ's operations -/

/-- What a turn of SEQ outside Idle keeps to: pc goes to the table's successor, the coming lines stay, and no operation but
COMMIT writes PANEL (R164, R170). -/
structure FollowsTable (s t : State) : Prop where
  pc : t.blk.pc = tableNext s t
  sched : t.sched = s.sched
  panel : s.blk.pc ≠ ⟨.rendering, 4#4⟩ → t.side.panel = s.side.panel

/-- An operation with a known next state: the table is looked at in the row where SEQ is. -/
theorem FollowsTable.of_next {o : Host.Outcome State Fault Refusal} {u : State} {st : SeqState} {k : BitVec 4}
    (hp : s.seqAt st k) (hx : o = .next u) (h : o = .next t) (hpc : u.blk.pc = tableNext (s.goto st k) u)
    (hsched : u.sched = s.sched) (hpanel : u.side.panel = s.side.panel) : FollowsTable s t := by
  obtain rfl := Host.Outcome.next.inj (hx.symm.trans h)
  exact ⟨hpc.trans (tableNext_at hp.2).symm, hsched, fun _ => hpanel⟩

/-- YEARSTEP stays in the loop where its test passes and leaves it where not (R125). -/
theorem execYearstep_followsTable (hp : s.seqAt .decoding 4#4) (h : execYearstep s = .next t) : FollowsTable s t := by
  by_cases hd : ylen s.blk.leap ≤ s.blk.d.toNat
  · exact .of_next hp (execYearstep_subtracts hp hd) h (if_pos hd).symm rfl rfl
  · exact .of_next hp (execYearstep_exits hp (Nat.lt_of_not_le hd)) h (if_neg hd).symm rfl rfl

/-- MONSCAN that completes has found its month. -/
theorem execMonscan_followsTable (hp : s.seqAt .decoding 7#4) (h : execMonscan s = .next t) : FollowsTable s t := by
  match hscan : s.blk.foundMonth with
  | none => simp [execMonscan_unfound hp hscan] at h
  | some (m, cum, prev) => exact .of_next hp (execMonscan_found hp hscan) h rfl rfl rfl

/-- COMMIT is the one operation that writes PANEL. -/
theorem execCommit_followsTable (hp : s.seqAt .rendering 4#4) (h : execCommit s = .next t) : FollowsTable s t := by
  obtain rfl := Host.Outcome.next.inj ((execCommit_in_place hp).symm.trans h)
  exact ⟨(tableNext_at hp.2).symm, rfl, fun hne => absurd hp.2 hne⟩

/-- Each operation that SEQ's sequence lists, in each of its places. -/
theorem exec_followsTable (hi : s.port.issuer = .seq) (hplace : s.InPlace i) (h : exec i s = .next t) :
    FollowsTable s t := by
  cases i
  case cfgpre | setcnt | setalr | enirq | rdsent | wrsent | rstbkp | selosc | unlockbkp | rstcause | oscrdy | reghandler
      | rdlvl =>
    exact absurd (hplace.1.symm.trans hi) (by decide)
  case waitsync => rcases hplace with hp | hp <;> exact absurd (hp.1.symm.trans hi) (by decide)
  case rdflags => exact .of_next hplace (execRdflags_in_place hplace) h rfl rfl rfl
  case dsprdy => exact .of_next hplace (execDsprdy_in_place hplace) h rfl rfl rfl
  case clrtick =>
    obtain hp | hp := hplace
    · exact .of_next hp (execClrtick_at_entry hp) h rfl rfl rfl
    · exact .of_next hp (execClrtick_at_rendering hp) h rfl rfl rfl
  case rdh =>
    obtain hp | hp := hplace
    · exact .of_next hp (execRdh_first hp) h rfl rfl rfl
    · exact .of_next hp (execRdh_second hp) h (apply_ite (Pc.mk .reading) _ _ _) rfl rfl
  case rdl =>
    obtain hp | hp := hplace
    · exact .of_next hp (execRdl_first hp) h rfl rfl rfl
    · exact .of_next hp (execRdl_second hp) h rfl rfl rfl
  case wday =>
    exact .of_next hplace (execWday_entry hplace (wdtab_eq (Nat.mod_lt _ (by decide)))) h rfl rfl rfl
  case yearstep => exact execYearstep_followsTable hplace h
  case monscan => exact execMonscan_followsTable hplace h
  case drawtext =>
    obtain hp | hp | hp := hplace
    · exact .of_next hp (execDrawtext_at (.inl rfl) hp) h rfl rfl rfl
    · exact .of_next hp (execDrawtext_at (.inr (.inl rfl)) hp) h rfl rfl rfl
    · exact .of_next hp (execDrawtext_at (.inr (.inr rfl)) hp) h rfl rfl rfl
  case commit => exact execCommit_followsTable hplace h
  case setlvl pin level =>
    obtain hp | ⟨hedge, -⟩ := hplace
    · exact .of_next hp (execSetlvl_of_seq hp) h rfl rfl (by cases pin <;> rfl)
    · exact absurd (hedge.symm.trans hi) (by decide)
  case log =>
    obtain hp | ⟨hp, -⟩ | ⟨hhost, -⟩ := hplace
    · exact .of_next hp (execLog_of_seq hp) h rfl rfl rfl
    · exact absurd (hp.1.symm.trans hi) (by decide)
    · exact absurd (hhost.symm.trans hi) (by decide)
  all_goals exact .of_next hplace (if_pos hplace) h rfl rfl rfl

/-- A turn of SEQ outside (Idle,0). -/
theorem seqMove_followsTable (hp : s.blk.pc ≠ ⟨.idle, 0#4⟩) (h : seqMove s = .next t) : FollowsTable s t := by
  obtain ⟨hidle, -⟩ | ⟨-, i, hi, hx⟩ := seqMove_cases h
  · exact absurd hidle hp
  · have hf := exec_followsTable (s := issued .seq i s) rfl (inPlace_of_seqInstr rfl hi) hx
    exact ⟨hf.pc, hf.sched, hf.panel⟩

/-- Settles O39: at (Idle,0) the row is VECTOR's condition; elsewhere the listed operation follows the table. -/
theorem sequencerFollowsTheTable : Obligations.SequencerFollowsTheTable := by
  intro s t hl h
  have hpc : t.blk.pc = tableNext s t := by
    by_cases hp : s.blk.pc = ⟨.idle, 0#4⟩
    · obtain rfl := Host.Outcome.next.inj ((seqMove_idle hp).symm.trans h)
      rw [tableNext_at hp]
      change _ = if vectorEnabled s then _ else _
      split_ifs
      · rfl
      · exact hp
    · exact (seqMove_followsTable hp h).pc
  exact ⟨hpc, hpc ▸ listedPc_tableNext hl⟩

end Sys2Proof.Machine
end

section
/-! PROOFS. The buffering property (42_dispatch R165, 60_exceptions R260): what the display shows depends on few fields, which
HOST, EDGE and the environment leave as they are or clear, and SEQ's turns in Rendering draw and commit one whole frame. -/

namespace Sys2Proof.Machine

variable {s t : State} {i : Instr}

/-! ## What the invariant looks at -/

/-- Nothing that `FramesWhole` looks at has changed: SEQ's block, the two display lists and the coming lines. -/
structure SameDisplay (s t : State) : Prop where
  blk : t.blk = s.blk
  dbuf : t.side.dbuf = s.side.dbuf
  panel : t.side.panel = s.side.panel
  sched : t.sched = s.sched

namespace FramesWhole

theorem of_same (h : FramesWhole s) (hs : SameDisplay s t) : FramesWhole t where
  moves := hs.sched ▸ h.moves
  panel := hs.panel ▸ h.panel
  drawing := by
    rw [hs.blk, hs.dbuf]
    exact h.drawing
  committed := by
    rw [hs.blk, hs.panel]
    exact h.committed

/-- Outside the steps that draw, the frames are whole as soon as PANEL holds a whole one. -/
theorem of_panel (hmoves : t.sched.all isMoveLine = true)
    (hpanel : t.side.panel = [] ∨ ∃ v : Word, t.side.panel = frame (calendar v))
    (h0 : t.blk.pc.state = .rendering → t.blk.pc.step = 0#4) : FramesWhole t where
  moves := hmoves
  panel := hpanel
  drawing := fun hst hk => by simp [h0 hst] at hk
  committed := fun hp => by simp [hp] at h0

theorem withSched {rest : List Line} (h : FramesWhole s) (hr : rest.all isMoveLine = true) :
    FramesWhole (s.withSched rest) := { h with moves := hr }

theorem drawn {n : Nat} (h : FramesWhole s) : FramesWhole (s.drawn n) := h.of_same ⟨rfl, rfl, rfl, rfl⟩

/-! ## The turns that draw (R158) -/

/-- CLRBUF begins the frame with nothing drawn. -/
theorem after_clrbuf (h : FramesWhole s) :
    FramesWhole (((s.withSide { s.side with dbuf := [] }).goto .rendering 1#4).answer .none) where
  moves := h.moves
  panel := h.panel
  drawing := fun _ _ _ => rfl
  committed := fun hp => by simp at hp

/-- DRAWTEXT of the next request of the frame. -/
theorem after_drawtext {k : BitVec 4} {pos : Pos} {text : Text} (h : FramesWhole s) (hp : s.blk.pc = ⟨.rendering, k⟩)
    (hk : k = 1#4 ∨ k = 2#4 ∨ k = 3#4)
    (hnext : (frame s.blk.cm).take (k.toNat - 1) ++ [⟨pos, text⟩] = (frame s.blk.cm).take k.toNat) :
    FramesWhole (((s.withSide { s.side with dbuf := s.side.dbuf ++ [⟨pos, text⟩] }).goto .rendering (k + 1#4)).answer
      .none) where
  moves := h.moves
  panel := h.panel
  drawing := fun _ _ _ => by
    have hdrawn : s.side.dbuf = (frame s.blk.cm).take (k.toNat - 1) := by
      have := h.drawing
      rw [hp] at this
      obtain rfl | rfl | rfl := hk <;> exact this rfl (by decide) (by decide)
    have hsucc : (k + 1#4).toNat - 1 = k.toNat := by obtain rfl | rfl | rfl := hk <;> rfl
    simp only [State.answer_side, State.goto_side, State.withSide_side, State.answer_blk, State.goto_blk, State.withSide_blk,
      hdrawn, hsucc, hnext]
  committed := fun hp5 => by
    obtain rfl | rfl | rfl := hk <;> simp at hp5

/-- COMMIT shows the whole frame of the moment, which is the calendar of RAW (R130). -/
theorem after_commit (h : FramesWhole s) (hc : Consistent s) (hp : s.blk.pc = ⟨.rendering, 4#4⟩) (pc : Pc)
    (hpc : pc = ⟨.rendering, 5#4⟩ ∨ pc = ⟨.idle, 0#4⟩) :
    FramesWhole (((s.withSide { s.side with panel := s.side.dbuf }).withBlk { s.blk with pc := pc }).answer .none) := by
  have hframe : s.side.dbuf = frame s.blk.cm := by
    have hall := h.drawing
    rw [hp] at hall
    exact hall rfl (by decide) (by decide)
  have hcm : s.blk.cm = calendar s.blk.raw := hc.decode.moment (by simp [hp])
  refine ⟨h.moves, .inr ⟨s.blk.raw, hcm ▸ hframe⟩, fun hst _ hk => ?_, fun _ => hframe⟩
  obtain rfl | rfl := hpc
  · simp at hk
  · simp at hst

end FramesWhole

/-! ## SEQ -/

/-- The table leads from outside Rendering to its first step only. -/
theorem tableNext_rendering (hst : s.blk.pc.state ≠ .rendering) (h : (tableNext s t).state = .rendering) :
    (tableNext s t).step = 0#4 := by
  revert h
  unfold tableNext
  split
  case h_15 => exact fun h => absurd h hst
  -- The rows of Rendering are shut out; of the others only (Decoding,7) leads there.
  all_goals (try split_ifs) <;> simp_all

theorem FramesWhole.of_turn {st : SeqState} {k : BitVec 4} {u : State} (hp : s.blk.pc = ⟨st, k⟩) (hst : st ≠ .idle)
    (hi : seqInstr (s.goto st k) = some i) (hx : exec i (issued .seq i s) = .next u)
    (hu : FramesWhole (issued .seq i s) → FramesWhole u) (h : FramesWhole s) (ht : seqMove s = .next t) : FramesWhole t := by
  obtain rfl : u = t := Host.Outcome.next.inj (hx.symm.trans ((seqMove_at hp hst hi).symm.trans ht))
  exact hu (h.of_same ⟨rfl, rfl, rfl, rfl⟩)

/-- The turns of Rendering (R158), step by step. -/
theorem seqMove_rendering_framesWhole (hc : Consistent s) (h : FramesWhole s) (hst : s.blk.pc.state = .rendering)
    (hx : seqMove s = .next t) : FramesWhole t := by
  have hk : s.blk.pc.step.toNat ≤ 5 := by simpa [listedPc, hst] using hc.listed
  interval_cases hstep : s.blk.pc.step.toNat
  all_goals have hp := Pc.eq_mk hst hstep
  · exact .of_turn hp (by decide) rfl (execClrbuf_in_place ⟨rfl, hp⟩) .after_clrbuf h hx
  · exact .of_turn hp (by decide) rfl (execDrawtext_at (.inl rfl) ⟨rfl, hp⟩)
      (fun h => h.after_drawtext hp (.inl rfl) rfl) h hx
  · exact .of_turn hp (by decide) rfl (execDrawtext_at (.inr (.inl rfl)) ⟨rfl, hp⟩)
      (fun h => h.after_drawtext hp (.inr (.inl rfl)) rfl) h hx
  · exact .of_turn hp (by decide) rfl (execDrawtext_at (.inr (.inr rfl)) ⟨rfl, hp⟩)
      (fun h => h.after_drawtext hp (.inr (.inr rfl)) rfl) h hx
  · exact .of_turn hp (by decide) rfl (execCommit_in_place ⟨rfl, hp⟩)
      (fun h => h.after_commit hc.withPort hp _ (ite_eq_or_eq _ _ _)) h hx
  · exact .of_turn hp (by decide) rfl (execClrtick_at_rendering ⟨rfl, hp⟩)
      (fun h => .of_panel h.moves h.panel (by simp)) h hx

theorem seqMove_framesWhole (hc : Consistent s) (h : FramesWhole s) (hx : seqMove s = .next t) : FramesWhole t := by
  by_cases hp : s.blk.pc = ⟨.idle, 0#4⟩
  · obtain rfl := Host.Outcome.next.inj ((seqMove_idle hp).symm.trans hx)
    split
    · exact .of_panel h.moves h.panel (by simp)
    · exact h
  · by_cases hst : s.blk.pc.state = .rendering
    · exact seqMove_rendering_framesWhole hc h hst hx
    · have hf := seqMove_followsTable hp hx
      refine .of_panel (hf.sched ▸ h.moves) ?_ (hf.pc ▸ tableNext_rendering hst)
      rw [hf.panel fun hcommit => hst (by rw [hcommit])]
      exact h.panel

/-! ## HOST -/

theorem SameDisplay.of_next {o : Host.Outcome State Fault Refusal} {u : State} (hx : o = .next u) (h : o = .next t)
    (hs : SameDisplay s u) : SameDisplay s t := Host.Outcome.next.inj (hx.symm.trans h) ▸ hs

/-- The operations that HOST issues in INIT write neither the block nor the display lists. -/
theorem exec_host_sameDisplay (hi : s.port.issuer = .host) (hplace : s.InPlace i) (h : exec i s = .next t) :
    SameDisplay s t := by
  cases i
  case cfgpre | setcnt | setalr | enirq | wrsent | rstbkp | selosc =>
    exact .of_next (if_pos hplace) (whenUnlocked_next h).2 ⟨rfl, rfl, rfl, rfl⟩
  case rdsent | unlockbkp | rstcause | oscrdy | reghandler => exact .of_next (if_pos hplace) h ⟨rfl, rfl, rfl, rfl⟩
  case waitsync =>
    obtain hp | hp := hplace
    · exact .of_next (if_pos hp) h ⟨rfl, rfl, rfl, rfl⟩
    · have hfirst : ¬ s.hostAt (.step 12) := by simp [hp.2]
      refine .of_next ((if_neg hfirst).trans (if_pos hp)) h ?_
      split <;> exact ⟨rfl, rfl, rfl, rfl⟩
  case log =>
    obtain hp | ⟨hp, rfl⟩ | ⟨-, outcome, houtcome, rfl⟩ := hplace
    · exact absurd (hp.1.symm.trans hi) (by decide)
    · exact .of_next (execLog_oscTimeout hp) h ⟨rfl, rfl, rfl, rfl⟩
    · exact .of_next (execLog_displayInit hi houtcome) h ⟨rfl, rfl, rfl, rfl⟩
  case rdh | rdl | clrtick | setlvl => rcases hplace with hp | hp <;> exact absurd (hp.1.symm.trans hi) (by decide)
  case drawtext => rcases hplace with hp | hp | hp <;> exact absurd (hp.1.symm.trans hi) (by decide)
  all_goals exact absurd (hplace.1.symm.trans hi) (by decide)

theorem hostMove_sameDisplay (h : hostMove s = .next t) : SameDisplay s t := by
  cases hi : hostInstr s with
  | none => exact .of_next (hostMove_idle hi) h ⟨rfl, rfl, rfl, rfl⟩
  | some i =>
    have hs := exec_host_sameDisplay (s := issued .host i s) rfl (inPlace_of_hostInstr rfl hi) (hostMove_issues hi ▸ h)
    exact ⟨hs.blk, hs.dbuf, hs.panel, hs.sched⟩

/-! ## EDGE (R168) -/

/-- The first turn of a run keeps the level of DIAG_PIN and uses up one event. -/
theorem edgeMove_reads (hmay : s.edgeMay) (hrest : s.edge.pos = .rest) (hruns : 0 < s.edge.runs) :
    ∃ p, edgeMove s = .next ((s.withEdge { pos := .toggle s.side.diag, runs := s.edge.runs - 1 }).withPort p) := by
  have hi : edgeInstr s = some (.rdlvl .diag) := by simp [edgeInstr, hrest, hruns]
  exact ⟨_, (edgeMove_issues hmay hi).trans (execRdlvl_in_place rfl hrest hruns hmay)⟩

/-- The second turn drives DIAG_PIN to the inverse of the level that was read. -/
theorem edgeMove_toggles {l : Bool} (hmay : s.edgeMay) (hpos : s.edge.pos = .toggle l) :
    ∃ p, edgeMove s = .next (((s.withSide { s.side with diag := !l }).withEdge { s.edge with pos := .rest }).withPort p) := by
  have hi : edgeInstr s = some (.setlvl .diag (!l)) := by simp [edgeInstr, hpos]
  have hx := execSetlvl_of_edge (s := issued .edge (.setlvl .diag (!l)) s) (pin := .diag) (level := !l) rfl
    (by simp [issued, hpos]) hmay
  exact ⟨_, (edgeMove_issues hmay hi).trans hx⟩

theorem edgeMove_sameDisplay (h : edgeMove s = .next t) : SameDisplay s t := by
  by_cases hmay : s.edgeMay
  · cases hpos : s.edge.pos with
    | rest =>
      by_cases hruns : 0 < s.edge.runs
      · obtain ⟨p, hp⟩ := edgeMove_reads hmay hpos hruns
        exact .of_next hp h ⟨rfl, rfl, rfl, rfl⟩
      · exact .of_next (edgeMove_idle (by simp [edgeInstr, hpos, hruns])) h ⟨rfl, rfl, rfl, rfl⟩
    | toggle l =>
      obtain ⟨p, hp⟩ := edgeMove_toggles hmay hpos
      exact .of_next hp h ⟨rfl, rfl, rfl, rfl⟩
  · exact .of_next (edgeMove_kept_out hmay) h ⟨rfl, rfl, rfl, rfl⟩

/-! ## The steps without operation code (R94) -/

theorem displayFailed_sameDisplay (h : displayFailed s = .next t) : SameDisplay s t := by
  obtain ⟨-, -, -, hbefore, hafter, -⟩ := environmentStepsChangeOneThing s
  by_cases hnone : s.side.sinkInit = none
  · obtain ⟨p, hp⟩ := hbefore hnone
    exact .of_next hp h ⟨rfl, rfl, rfl, rfl⟩
  · exact .of_next (hafter hnone) h ⟨rfl, rfl, rfl, rfl⟩

theorem displayNotice_sameDisplay (h : displayNotice s = .next t) : SameDisplay s t := by
  obtain ⟨-, -, -, -, -, hok, hunless, -⟩ := environmentStepsChangeOneThing s
  by_cases hinit : s.side.sinkInit = some .ok
  · obtain ⟨p, hp⟩ := hok hinit
    exact .of_next hp h ⟨rfl, rfl, rfl, rfl⟩
  · exact .of_next (hunless hinit) h ⟨rfl, rfl, rfl, rfl⟩

theorem ctrInc_sameDisplay (s : State) : SameDisplay s (ctrInc s) := by
  unfold ctrInc
  split <;> exact ⟨rfl, rfl, rfl, rfl⟩

theorem displayUp_sameDisplay (s : State) : SameDisplay s (displayUp s) := by
  unfold displayUp
  split <;> exact ⟨rfl, rfl, rfl, rfl⟩

theorem envOsc_sameDisplay (s : State) : SameDisplay s (envOsc s) := by
  unfold envOsc
  split <;> exact ⟨rfl, rfl, rfl, rfl⟩

/-- A system reset empties PANEL and puts SEQ at (Idle,0) (R240). -/
theorem FramesWhole.systemReset (h : FramesWhole s) (por pin : Bool) : FramesWhole (systemReset por pin s) :=
  .of_panel h.moves (.inl rfl) (by simp [resetBlock])

theorem takeMove_framesWhole {m : Move} (hc : Consistent s) (h : FramesWhole s) (hx : takeMove m s = .next t) :
    FramesWhole t := by
  cases m with
  | seq => exact seqMove_framesWhole hc h hx
  | host => exact h.of_same (hostMove_sameDisplay hx)
  | edge => exact h.of_same (edgeMove_sameDisplay hx)
  | displayFailed => exact h.of_same (displayFailed_sameDisplay hx)
  | displayNotice => exact h.of_same (displayNotice_sameDisplay hx)
  | ctrInc => exact h.of_same (.of_next rfl hx (ctrInc_sameDisplay s))
  | displayUp => exact h.of_same (.of_next rfl hx (displayUp_sameDisplay s))
  | envOsc => exact h.of_same (.of_next rfl hx (envOsc_sameDisplay s))
  | ctrSync | envEdge => exact h.of_same (.of_next rfl hx ⟨rfl, rfl, rfl, rfl⟩)
  | reset por pin => exact Host.Outcome.next.inj hx ▸ h.systemReset por pin
  | backupLoss por pin =>
    have hlost : FramesWhole (loseBackup s) := h.of_same ⟨rfl, rfl, rfl, rfl⟩
    exact Host.Outcome.next.inj hx ▸ hlost.systemReset por pin

/-- Settles O49: no line to come names an operation word, so the step is a move, and every move keeps the frames whole. -/
theorem stepKeepsFramesWhole : Obligations.StepKeepsFramesWhole := by
  intro s t hc h hx
  match hl : s.sched with
  | [] =>
    rw [step_free hl] at hx
    exact takeMove_framesWhole hc.drawn h.drawn hx
  | .move m :: rest =>
    have hrest : rest.all isMoveLine = true := by simpa [hl, isMoveLine] using h.moves
    rw [step_line hl] at hx
    exact takeMove_framesWhole hc.withSched (h.withSched hrest) hx
  | .op agent word arg :: rest => simpa [hl, isMoveLine] using h.moves

end Sys2Proof.Machine
end

section
/-! PROOFS. EDGE beside the dispatcher (42_dispatch R168, 60_exceptions R219, 95_test_vectors R264): a run of EDGE writes
LEVEL(DIAG_PIN) and EDGE's own position, which no operation of SEQ's sequence reads, so that the two commute. -/

namespace Sys2Proof.Machine

variable {s t : State} {i : Instr} {d : Bool} {e : Edge} {p : Port}

/-! ## The run (R168) -/

/-- The state with another level of DIAG_PIN and EDGE elsewhere. -/
def State.edgeRan (d : Bool) (e : Edge) (s : State) : State := (s.withSide { s.side with diag := d }).withEdge e

/-- The two turns of a run invert LEVEL(DIAG_PIN) and use up one event. -/
theorem runMoves_edge_run (hmay : s.edgeMay) (hrest : s.edge.pos = .rest) (hruns : 0 < s.edge.runs) :
    ∃ p, runMoves [.edge, .edge] s =
      .next ((s.edgeRan (!s.side.diag) { s.edge with runs := s.edge.runs - 1 }).withPort p) := by
  obtain ⟨p, hp⟩ := edgeMove_reads hmay hrest hruns
  obtain ⟨q, hq⟩ := edgeMove_toggles (s := (s.withEdge { pos := .toggle s.side.diag, runs := s.edge.runs - 1 }).withPort p)
    hmay rfl
  have hedge : ({ s.edge with runs := s.edge.runs - 1 } : Edge) = ⟨.rest, s.edge.runs - 1⟩ := by rw [← hrest]
  rw [hedge]
  exact ⟨q, (runMoves_append (ms := [.edge]) (runMoves_singleton hp)).trans (runMoves_singleton hq)⟩

/-! ## SEQ's operations beside a run -/

/-- If the second outcome is a next state, the first one is, and the two differ in DIAG_PIN, EDGE and the ports alone. -/
def Beside (d : Bool) (e : Edge) (o o' : Host.Outcome State Fault Refusal) : Prop :=
  ∀ t, o' = .next t → ∃ u q, o = .next u ∧ t = (u.edgeRan d e).withPort q

namespace Beside

theorem of_next {o o' : Host.Outcome State Fault Refusal} {u u' : State} (hx : o = .next u) (hx' : o' = .next u')
    (hu : ∃ q, u' = (u.edgeRan d e).withPort q) : Beside d e o o' := by
  obtain ⟨q, rfl⟩ := hu
  exact fun t ht => ⟨u, q, hx, Host.Outcome.next.inj (ht.symm.trans hx')⟩

/-- An operation of SEQ whose effect `f` commutes with the run. -/
theorem turn {st : SeqState} {k : BitVec 4} {f : State → State} (hx : ∀ s, s.seqAt st k → exec i s = .next (f s))
    (hp : s.seqAt st k) (hq : p.issuer = .seq)
    (hf : ∃ q, f ((s.edgeRan d e).withPort p) = ((f s).edgeRan d e).withPort q) :
    Beside d e (exec i s) (exec i ((s.edgeRan d e).withPort p)) :=
  of_next (hx s hp) (hx _ ⟨hq, hp.2⟩) hf

end Beside

theorem execYearstep_beside (hp : s.seqAt .decoding 4#4) (hq : p.issuer = .seq) :
    Beside d e (execYearstep s) (execYearstep ((s.edgeRan d e).withPort p)) := by
  by_cases hd : ylen s.blk.leap ≤ s.blk.d.toNat
  · exact .of_next (execYearstep_subtracts hp hd) (execYearstep_subtracts ⟨hq, hp.2⟩ hd) ⟨_, rfl⟩
  · have hlt := Nat.lt_of_not_le hd
    exact .of_next (execYearstep_exits hp hlt) (execYearstep_exits ⟨hq, hp.2⟩ hlt) ⟨_, rfl⟩

theorem execMonscan_beside (hp : s.seqAt .decoding 7#4) (hq : p.issuer = .seq) :
    Beside d e (execMonscan s) (execMonscan ((s.edgeRan d e).withPort p)) := by
  match hscan : s.blk.foundMonth with
  | none =>
    intro t ht
    have hstop := execMonscan_unfound (s := (s.edgeRan d e).withPort p) ⟨hq, hp.2⟩ hscan
    exact absurd (hstop.symm.trans ht) (by simp)
  | some (m, cum, prev) =>
    have hx := execMonscan_found (s := (s.edgeRan d e).withPort p) ⟨hq, hp.2⟩ hscan
    exact .of_next (execMonscan_found hp hscan) hx ⟨_, rfl⟩

/-- Each operation that SEQ's sequence lists; the pin that it drives is not DIAG_PIN (R8, R160). -/
theorem exec_beside (hi : s.port.issuer = .seq) (hq : p.issuer = .seq) (hplace : s.InPlace i)
    (hpin : ∀ l, i ≠ .setlvl .diag l) : Beside d e (exec i s) (exec i ((s.edgeRan d e).withPort p)) := by
  cases i
  case cfgpre | setcnt | setalr | enirq | rdsent | wrsent | rstbkp | selosc | unlockbkp | rstcause | oscrdy | reghandler
      | rdlvl =>
    exact absurd (hplace.1.symm.trans hi) (by decide)
  case waitsync => rcases hplace with hp | hp <;> exact absurd (hp.1.symm.trans hi) (by decide)
  case rdflags => exact .turn (fun _ => execRdflags_in_place) hplace hq ⟨_, rfl⟩
  case dsprdy => exact .turn (fun _ => execDsprdy_in_place) hplace hq ⟨_, rfl⟩
  case clrtick =>
    obtain hp | hp := hplace
    · exact .turn (fun _ => execClrtick_at_entry) hp hq ⟨_, rfl⟩
    · exact .turn (fun _ => execClrtick_at_rendering) hp hq ⟨_, rfl⟩
  case rdh =>
    obtain hp | hp := hplace
    · exact .turn (fun _ => execRdh_first) hp hq ⟨_, rfl⟩
    · exact .turn (fun _ => execRdh_second) hp hq ⟨_, rfl⟩
  case rdl =>
    obtain hp | hp := hplace
    · exact .turn (fun _ => execRdl_first) hp hq ⟨_, rfl⟩
    · exact .turn (fun _ => execRdl_second) hp hq ⟨_, rfl⟩
  case wday =>
    exact .turn (fun _ hp => execWday_entry hp (wdtab_eq (Nat.mod_lt _ (by decide)))) hplace hq ⟨_, rfl⟩
  case yearstep => exact execYearstep_beside hplace hq
  case monscan => exact execMonscan_beside hplace hq
  case drawtext =>
    obtain hp | hp | hp := hplace
    · exact .turn (fun _ => execDrawtext_at (.inl rfl)) hp hq ⟨_, rfl⟩
    · exact .turn (fun _ => execDrawtext_at (.inr (.inl rfl))) hp hq ⟨_, rfl⟩
    · exact .turn (fun _ => execDrawtext_at (.inr (.inr rfl))) hp hq ⟨_, rfl⟩
  case commit => exact .turn (fun _ => execCommit_in_place) hplace hq ⟨_, rfl⟩
  case setlvl pin level =>
    obtain hp | ⟨hedge, -⟩ := hplace
    · cases pin with
      | diag => exact absurd rfl (hpin level)
      | relay | edge => exact .turn (fun _ => execSetlvl_of_seq) hp hq ⟨_, rfl⟩
    · exact absurd (hedge.symm.trans hi) (by decide)
  case log =>
    obtain hp | ⟨hp, -⟩ | ⟨hhost, -⟩ := hplace
    · exact .turn (fun _ => execLog_of_seq) hp hq ⟨_, rfl⟩
    · exact absurd (hp.1.symm.trans hi) (by decide)
    · exact absurd (hhost.symm.trans hi) (by decide)
  all_goals exact .turn (fun _ hp => if_pos hp) hplace hq ⟨_, rfl⟩

/-! ## SEQ's turns beside a run -/

/-- A run of one turn is the turn. -/
theorem runMoves_seq : runMoves [.seq] s = .next t ↔ seqMove s = .next t := by
  cases h : seqMove s <;> simp [runMoves, takeMove, h]

/-- The one pin that SEQ's sequence drives is RELAY_PIN (R160). -/
theorem seqInstr_ne_setlvl_diag (h : seqInstr s = some i) (l : Bool) : i ≠ .setlvl .diag l := by
  rintro rfl
  unfold seqInstr at h
  split at h <;> simp at h

theorem seqMove_beside (s : State) (p : Port) : Beside d e (seqMove s) (seqMove ((s.edgeRan d e).withPort p)) := by
  intro t ht
  obtain ⟨hp, rfl⟩ | ⟨hp, i, hi, hx⟩ := seqMove_cases ht
  · refine ⟨_, p, seqMove_idle hp, ?_⟩
    change (if vectorEnabled s then _ else _) = _
    split <;> rfl
  · have hlists : seqInstr s = some i := hi
    rw [seqMove_issues (s := s) hp hlists]
    have hplace := inPlace_of_seqInstr (s := issued .seq i s) rfl hlists
    exact exec_beside rfl rfl hplace (seqInstr_ne_setlvl_diag hlists) t hx

/-- Settles O51: after the run SEQ's turn is the one of `seqMove_beside`, whose states differ in the run's own writes. -/
theorem edgeRunsDoNotDisturbTheSequencer : Obligations.EdgeRunsDoNotDisturbTheSequencer := by
  intro s t hpre hrest hruns h
  obtain ⟨p, hp⟩ := runMoves_edge_run (.inl hpre) hrest hruns
  obtain ⟨u, q, hu, rfl⟩ := seqMove_beside s p t (runMoves_seq.mp ((runMoves_append hp).symm.trans h))
  exact ⟨u, runMoves_seq.mpr hu, rfl, rfl, rfl, rfl, rfl, rfl, rfl⟩

end Sys2Proof.Machine
end

section
/-! PROOFS. The two short paths (42_dispatch): the skip with the display not ready (R156), and the alarm (R160), each turn by
turn from (Idle,0) back to it. -/

namespace Sys2Proof.Machine

variable {s : State}

/-! ## The turns -/

/-- With the display not ready CLRTICK follows DSPRDY under either clear point (R152). -/
theorem seqRun_dsprdy_unready (hp : s.blk.pc = ⟨.entry, 1#4⟩) (h : s.side.displayReady = false) :
    SeqRun 1 s (s.withBlk { s.blk with ready := false, pc := ⟨.entry, 2#4⟩ }) := by
  refine .turn hp (by decide) rfl fun p hat => ?_
  have hexec := execDsprdy_in_place hat
  simp only [State.withPort_side, h, true_or, if_true] at hexec
  exact ⟨_, hexec⟩

/-- With the display found not ready CLRTICK at (Entry,2) ends the path (R153). -/
theorem seqRun_clrtick_skips (hp : s.blk.pc = ⟨.entry, 2#4⟩) (h : s.blk.ready = false) :
    SeqRun 1 s (returnToIdle (s.withCri (clearTick s.cri))) := by
  refine .turn hp (by decide) rfl fun p hat => ?_
  have hexec := execClrtick_at_entry hat
  have hready : ¬ (s.withPort p).blk.ready = true := by simp [h]
  rw [if_neg hready] at hexec
  exact ⟨_, hexec⟩

/-- With no tick the alarm flag sends the path to AlarmHandling (R151). -/
theorem seqRun_rdflags_alarm (hp : s.blk.pc = ⟨.entry, 0#4⟩) (htick : s.cri.tickf = false) (halarm : s.cri.alrf = true) :
    SeqRun 1 s (s.goto .alarmHandling 0#4) := by
  refine .turn hp (by decide) rfl fun p hat => ?_
  have hexec := execRdflags_in_place hat
  simp only [State.withPort_cri, htick, halarm, Bool.false_eq_true, if_false, if_true] at hexec
  exact ⟨_, hexec⟩

theorem seqRun_setlvl (hp : s.blk.pc = ⟨.alarmHandling, 0#4⟩) :
    SeqRun 1 s ((s.withSide { s.side with relay := s.cfg.relayOff }).goto .alarmHandling 1#4) :=
  .turn hp (by decide) rfl fun _ hat => ⟨_, execSetlvl_of_seq hat⟩

theorem seqRun_log (hp : s.blk.pc = ⟨.alarmHandling, 1#4⟩) :
    SeqRun 1 s ((s.withSide { s.side with logs := s.side.logs ++ [.alarmFired] }).goto .alarmHandling 2#4) :=
  .turn hp (by decide) rfl fun _ hat => ⟨_, execLog_of_seq (notice := .alarmFired) hat⟩

theorem seqRun_clralr (hp : s.blk.pc = ⟨.alarmHandling, 2#4⟩) :
    SeqRun 1 s (returnToIdle (s.withCri (clearAlarm s.cri))) :=
  .turn hp (by decide) rfl fun _ hat => ⟨_, execClralr_in_place hat⟩

/-! ## The paths -/

/-- VECTOR, RDFLAGS, DSPRDY and CLRTICK, which between them write pc, the remembered answer and TICKF. -/
theorem seqRun_skip (hp : s.blk.pc = ⟨.idle, 0#4⟩) (hvector : vectorEnabled s = true) (htick : s.cri.tickf = true)
    (hready : s.side.displayReady = false) :
    SeqRun 4 s ((s.withCri (clearTick s.cri)).withBlk { s.blk with ready := false }) := by
  have hentry := (seqRun_vector hp hvector).trans (seqRun_rdflags_tick rfl htick)
  have hall := (hentry.trans (seqRun_dsprdy_unready rfl hready)).trans (seqRun_clrtick_skips rfl rfl)
  exact hall.of_eq rfl (goto_self (s := (s.withCri (clearTick s.cri)).withBlk { s.blk with ready := false }) hp)

/-- VECTOR, RDFLAGS, SETLVL, LOG and CLRALR; the display is not looked at. -/
theorem seqRun_alarm (hp : s.blk.pc = ⟨.idle, 0#4⟩) (hvector : vectorEnabled s = true) (htick : s.cri.tickf = false)
    (halarm : s.cri.alrf = true) :
    SeqRun 5 s ((s.withCri (clearAlarm s.cri)).withSide { s.side with
      relay := s.cfg.relayOff, logs := s.side.logs ++ [.alarmFired] }) := by
  have hentry := (seqRun_vector hp hvector).trans (seqRun_rdflags_alarm rfl htick halarm)
  have hall := ((hentry.trans (seqRun_setlvl rfl)).trans (seqRun_log rfl)).trans (seqRun_clralr rfl)
  exact hall.of_eq rfl (goto_self (s := (s.withCri (clearAlarm s.cri)).withSide { s.side with
    relay := s.cfg.relayOff, logs := s.side.logs ++ [.alarmFired] }) hp)

/-- Settles O52: the skip path, entered by the tick's enable or by the alarm's. -/
theorem skipPathTouchesNothing : Obligations.SkipPathTouchesNothing := by
  intro s hp hhandler htick henabled hready
  have hvector : vectorEnabled s = true :=
    vectorEnabled_iff.mpr ⟨hhandler, henabled.imp_left fun hie => ⟨htick, hie⟩⟩
  exact seqRun_skip hp hvector htick hready s.port

/-- Settles O53: the alarm path, entered by the alarm's enable. -/
theorem alarmPathTurnsTheRelayOff : Obligations.AlarmPathTurnsTheRelayOff := by
  intro s hp hhandler htick halarm hie
  have hvector : vectorEnabled s = true := vectorEnabled_iff.mpr ⟨hhandler, .inr ⟨halarm, hie⟩⟩
  exact seqRun_alarm hp hvector htick halarm s.port

end Sys2Proof.Machine
end

section
/-! PROOFS. The operations of the initialisation family (43_init R180 to R193), each at HOST's step of INIT: what it answers,
what it writes, and where HOST goes on. -/

namespace Sys2Proof.Machine

variable {s : State}

/-! ## Places and register widths -/

/-- A backup-domain write of HOST in its place, with the domain unlocked, has its effect (R68). -/
theorem unlockedAtHost_eq_next {p : HostPos} (f : State → State) (hlock : s.cri.bkpwe = true) (hp : s.hostAt p) :
    s.whenUnlocked (s.atHost p f) = .next (f s) :=
  (whenUnlocked_eq _ hlock).trans (atHost_eq_next p f hp.1 hp.2)

/-- PRESC holds the divisor modulo 2^PRESC_W whatever PRESC_W is: a 32-bit divisor loses nothing to a wider one. -/
theorem truncTo_toNat_eq_mod (w : Nat) (v : Word) : (truncTo w v).toNat = v.toNat % 2 ^ w :=
  Nat.mod_eq_of_lt (Nat.lt_of_le_of_lt (Nat.mod_le _ _) v.isLt)

/-! ## The decisions of INIT (R187, R195) -/

theorem coldStart_iff {por pin : Bool} {sent sentinel : Half} :
    coldStart por pin sent sentinel = true ↔ pin = true ∨ (por = false ∧ sent ≠ sentinel) := by
  simp [coldStart, or_comm]

/-- The decision in terms of the columns of R195's table: POR, whether the sentinel is present, PINRST. -/
theorem coldStart_eq (por pin : Bool) (sent sentinel : Half) :
    coldStart por pin sent sentinel = (!por && !decide (sent = sentinel) || pin) := by
  rw [Bool.eq_iff_iff, coldStart_iff]
  simp [or_comm]

/-- One poll of the ready-wait, with the two sources told apart by a test (R187). -/
theorem afterPoll_eq (s : State) (r : Bool) :
    afterPoll s r =
      if r = true then { s.boot with pos := .step 6 }
      else if s.cfg.oscSource = .internal then s.boot
      else { s.boot with
        polls := s.boot.polls + 1
        pos := if s.boot.polls + 1 = s.cfg.oscWaitIters then .oscTimeout else .step 5 } := by
  unfold afterPoll
  cases s.cfg.oscSource with
  | internal => rfl
  | external => rfl

/-! ## The operations in their places -/

theorem execUnlockbkp_in_place (hp : s.hostAt (.step 0)) :
    execUnlockbkp s = .next (((s.withCri { s.cri with bkpwe := true }).hostGoto (.step 1)).answer .none) := if_pos hp

theorem execRstcause_in_place (hp : s.hostAt (.step 1)) :
    execRstcause s = .next ((s.withBoot { s.boot with por := s.env.por, pin := s.env.pinrst, pos := .step 2 }).answer
      (flagsRes s.env.por s.env.pinrst)) := if_pos hp

theorem execRdsent_in_place (hp : s.hostAt (.step 2)) :
    execRdsent s = .next ((s.withBoot { s.boot with
      sent := s.cri.sent
      pos := if coldStart s.boot.por s.boot.pin s.cri.sent s.cfg.sentinel then .step 3 else .step 12 }).answer
        (.q16 s.cri.sent)) := if_pos hp

theorem execRstbkp_in_place (hlock : s.cri.bkpwe = true) (hp : s.hostAt (.step 3)) :
    execRstbkp s = .next (((loseBackup s).hostGoto (.step 4)).answer .none) := unlockedAtHost_eq_next _ hlock hp

theorem execSelosc_in_place {source : OscSource} (hlock : s.cri.bkpwe = true) (hp : s.hostAt (.step 4)) :
    execSelosc source s = .next (((s.withCri { s.cri with osc := oscOf source }).withBoot
      { s.boot with pos := .step 5, polls := 0 }).answer .none) := unlockedAtHost_eq_next _ hlock hp

theorem execOscrdy_in_place (hp : s.hostAt (.step 5)) :
    execOscrdy s = .next ((s.withBoot (afterPoll s s.env.oscReady)).answer (flagRes s.env.oscReady)) := if_pos hp

theorem execCfgpre_in_place {divisor : Word} (hlock : s.cri.bkpwe = true) (hp : s.hostAt (.step 6)) :
    execCfgpre divisor s = .next (((s.withCri { s.cri with presc := truncTo s.cfg.prescW divisor }).hostGoto
      (.step 7)).answer .none) := unlockedAtHost_eq_next _ hlock hp

theorem execSetcnt_in_place {value : Word} (hlock : s.cri.bkpwe = true) (hp : s.hostAt (.step 7)) :
    execSetcnt value s = .next (((s.withCri { s.cri with cnt := value }).hostGoto (.step 8)).answer .none) :=
  unlockedAtHost_eq_next _ hlock hp

theorem execSetalr_in_place {value : Word} (hlock : s.cri.bkpwe = true) (hp : s.hostAt (.step 8)) :
    execSetalr value s = .next (((s.withCri { s.cri with alarm := value }).hostGoto (.step 9)).answer .none) :=
  unlockedAtHost_eq_next _ hlock hp

theorem execEnirq_in_place (hlock : s.cri.bkpwe = true) (hp : s.hostAt (.step 9)) :
    execEnirq s = .next (((s.withCri { s.cri with tickie := true, alrie := true }).hostGoto (.step 10)).answer .none) :=
  unlockedAtHost_eq_next _ hlock hp

theorem execReghandler_in_place (hp : s.hostAt (.step 10)) :
    execReghandler s = .next (((s.withSide { s.side with hreg := true }).hostGoto (.step 11)).answer .none) := if_pos hp

theorem execWrsent_in_place {value : Half} (hlock : s.cri.bkpwe = true) (hp : s.hostAt (.step 11)) :
    execWrsent value s = .next (((s.withCri { s.cri with sent := value }).hostGoto (.step 12)).answer .none) :=
  unlockedAtHost_eq_next _ hlock hp

/-- Step a of WAITSYNC (R193). -/
theorem execWaitsync_clears (hp : s.hostAt (.step 12)) :
    execWaitsync s = .next (((s.withCri { s.cri with rsf := false }).hostGoto .syncWait).answer .none) := if_pos hp

/-- Step b of WAITSYNC (R193): HOST goes on, or waits, by RSF. -/
theorem execWaitsync_waits (hp : s.hostAt .syncWait) :
    execWaitsync s = .next ((if s.cri.rsf then s.hostGoto .done else s).answer .none) := by
  have hfirst : ¬ s.hostAt (.step 12) := by simp [hp.2]
  exact (if_neg hfirst).trans (if_pos hp)

theorem execWaitsync_passes (hp : s.hostAt .syncWait) (hsync : s.cri.rsf = true) :
    execWaitsync s = .next ((s.hostGoto .done).answer .none) := by rw [execWaitsync_waits hp, if_pos hsync]

theorem execWaitsync_stays (hp : s.hostAt .syncWait) (hsync : s.cri.rsf = false) :
    execWaitsync s = .next (s.answer .none) := by
  rw [execWaitsync_waits hp, hsync]
  rfl

/-! ## The statements -/

/-- Settles O21: RSTCAUSE and RDSENT in their places; the decision after RDSENT is compared with R195's table row by row. -/
theorem causeAndSentinelDecideTheColdStart : Obligations.CauseAndSentinelDecideTheColdStart := by
  refine ⟨fun _ => ⟨rfl, rfl⟩, fun s hi => ⟨fun hp => ?rstcause, fun hp => ?rdsent⟩⟩
  case rstcause =>
    rw [← flagsRes_eq]
    exact execRstcause_in_place ⟨hi, hp⟩
  case rdsent =>
    refine (execRdsent_in_place ⟨hi, hp⟩).trans ?_
    rw [coldStart_eq]
    cases s.boot.por <;> cases decide (s.cri.sent = s.cfg.sentinel) <;> cases s.boot.pin <;> rfl

/-- Settles O22: WRSENT in its place, and its gate. -/
theorem wrsentWritesTheSentinel : Obligations.WrsentWritesTheSentinel :=
  ⟨fun _ => rfl, fun _ _ => ⟨fun hi hp hlock => execWrsent_in_place hlock ⟨hi, hp⟩, whenUnlocked_locked _⟩⟩

/-- Settles O23: RSTBKP in its place has the effect of the loss of the backup domain (R243). -/
theorem rstbkpResetsTheBackupDomain : Obligations.RstbkpResetsTheBackupDomain :=
  ⟨fun _ => rfl, fun _ hi hp hlock => execRstbkp_in_place hlock ⟨hi, hp⟩⟩

/-- Settles O24: SELOSC in its place. -/
theorem seloscSelectsTheSource : Obligations.SeloscSelectsTheSource :=
  ⟨fun _ => rfl, fun _ _ hi hp hlock => execSelosc_in_place hlock ⟨hi, hp⟩⟩

/-- Settles O25: OSCRDY in the ready-wait. -/
theorem oscrdyPollsInTheReadyWait : Obligations.OscrdyPollsInTheReadyWait := by
  refine ⟨fun _ => rfl, fun s hi hp => ?_⟩
  rw [← flagRes_eq, ← afterPoll_eq]
  exact execOscrdy_in_place ⟨hi, hp⟩

/-- Settles O26: CFGPRE in its place; what PRESC takes is the divisor cut to PRESC_W bits. -/
theorem cfgpreWritesThePrescaler : Obligations.CfgpreWritesThePrescaler :=
  ⟨fun _ => rfl, fun s divisor hi hp hlock => ⟨truncTo s.cfg.prescW divisor, truncTo_toNat_eq_mod _ _, truncTo_of_lt,
    execCfgpre_in_place hlock ⟨hi, hp⟩⟩⟩

/-- Settles O27: SETCNT and SETALR in their places. -/
theorem setcntAndSetalrWriteWholeValues : Obligations.SetcntAndSetalrWriteWholeValues :=
  ⟨fun _ => ⟨rfl, rfl⟩, fun _ _ hi hlock =>
    ⟨fun hp => execSetcnt_in_place hlock ⟨hi, hp⟩, fun hp => execSetalr_in_place hlock ⟨hi, hp⟩⟩⟩

/-- Settles O28: UNLOCKBKP, ENIRQ and REGHANDLER in their places. -/
theorem hostSetsLockEnablesAndHandler : Obligations.HostSetsLockEnablesAndHandler :=
  ⟨fun _ => ⟨rfl, rfl, rfl⟩, fun _ hi => ⟨fun hp => execUnlockbkp_in_place ⟨hi, hp⟩,
    fun hp hlock => execEnirq_in_place hlock ⟨hi, hp⟩, fun hp => execReghandler_in_place ⟨hi, hp⟩⟩⟩

/-- Settles O29: the two steps of WAITSYNC, the second one with RSF as it is found. -/
theorem waitsyncClearsThenWaits : Obligations.WaitsyncClearsThenWaits :=
  ⟨fun _ => rfl, fun _ hi => ⟨fun hp => execWaitsync_clears ⟨hi, hp⟩,
    fun hp hsync => execWaitsync_passes ⟨hi, hp⟩ hsync, fun hp hsync => execWaitsync_stays ⟨hi, hp⟩ hsync⟩⟩

end Sys2Proof.Machine
end

section
/-! PROOFS. INIT as a whole (43_init R194): runs of moves, HOST's turn at each step, and the two ways through, the boot that
finds the sentinel (R196) and the cold start (R197). -/

namespace Sys2Proof.Machine

variable {s t u : State} {i : Instr} {ms ms' : List Move}

/-! ## Runs of moves -/

/-- The moves lead from `s` to `t`: `SeqRun` for any list of them. The operations' words and results on the ports are left
free; everything else of `t` is meant. -/
def MovesRun (ms : List Move) (s t : State) : Prop :=
  ∀ p, ∃ q, runMoves ms (s.withPort p) = .next (t.withPort q)

theorem MovesRun.trans (h : MovesRun ms s t) (h' : MovesRun ms' t u) : MovesRun (ms ++ ms') s u := by
  intro p
  obtain ⟨q, hq⟩ := h p
  obtain ⟨r, hr⟩ := h' q
  exact ⟨r, (runMoves_append hq).trans hr⟩

theorem hostGoto_self {pos : HostPos} (hp : s.boot.pos = pos) : s.hostGoto pos = s := by
  rw [State.hostGoto, ← hp]
  rfl

/-- A turn of HOST is the operation that INIT lists at its position (R194). -/
theorem MovesRun.turn {pos : HostPos} (hp : s.boot.pos = pos) (hi : hostInstr (s.hostGoto pos) = some i)
    (hx : ∀ p, (s.withPort p).hostAt pos → ∃ q, exec i (s.withPort p) = .next (t.withPort q)) : MovesRun [.host] s t := by
  intro p
  rw [hostGoto_self hp] at hi
  obtain ⟨q, hq⟩ := hx (issued .host i (s.withPort p)).port ⟨rfl, hp⟩
  exact ⟨q, runMoves_singleton ((hostMove_issues (s := s.withPort p) hi).trans hq)⟩

/-! ## The turns -/

theorem hostRun_unlockbkp (hp : s.boot.pos = .step 0) :
    MovesRun [.host] s ((s.withCri { s.cri with bkpwe := true }).hostGoto (.step 1)) :=
  .turn hp rfl fun _ hat => ⟨_, execUnlockbkp_in_place hat⟩

theorem hostRun_rstcause (hp : s.boot.pos = .step 1) :
    MovesRun [.host] s (s.withBoot { s.boot with por := s.env.por, pin := s.env.pinrst, pos := .step 2 }) :=
  .turn hp rfl fun _ hat => ⟨_, execRstcause_in_place hat⟩

theorem hostRun_rdsent (hp : s.boot.pos = .step 2) :
    MovesRun [.host] s (s.withBoot { s.boot with
      sent := s.cri.sent
      pos := if coldStart s.boot.por s.boot.pin s.cri.sent s.cfg.sentinel then .step 3 else .step 12 }) :=
  .turn hp rfl fun _ hat => ⟨_, execRdsent_in_place hat⟩

theorem hostRun_rstbkp (hlock : s.cri.bkpwe = true) (hp : s.boot.pos = .step 3) :
    MovesRun [.host] s ((loseBackup s).hostGoto (.step 4)) :=
  .turn hp rfl fun _ hat => ⟨_, execRstbkp_in_place hlock hat⟩

theorem hostRun_selosc (hlock : s.cri.bkpwe = true) (hp : s.boot.pos = .step 4) :
    MovesRun [.host] s ((s.withCri { s.cri with osc := oscOf s.cfg.oscSource }).withBoot
      { s.boot with pos := .step 5, polls := 0 }) :=
  .turn hp rfl fun _ hat => ⟨_, execSelosc_in_place hlock hat⟩

/-- The oscillator found ready ends the ready-wait (R187). -/
theorem hostRun_oscrdy (hready : s.env.oscReady = true) (hp : s.boot.pos = .step 5) :
    MovesRun [.host] s (s.hostGoto (.step 6)) := by
  refine .turn hp rfl fun p hat => ?_
  have hexec := execOscrdy_in_place hat
  rw [State.withPort_env, hready] at hexec
  exact ⟨_, hexec⟩

theorem hostRun_cfgpre (hlock : s.cri.bkpwe = true) (hp : s.boot.pos = .step 6) :
    MovesRun [.host] s ((s.withCri { s.cri with presc := truncTo s.cfg.prescW (prescDiv s.cfg) }).hostGoto (.step 7)) :=
  .turn hp rfl fun _ hat => ⟨_, execCfgpre_in_place hlock hat⟩

theorem hostRun_setcnt (hlock : s.cri.bkpwe = true) (hp : s.boot.pos = .step 7) :
    MovesRun [.host] s ((s.withCri { s.cri with cnt := s.cfg.seed }).hostGoto (.step 8)) :=
  .turn hp rfl fun _ hat => ⟨_, execSetcnt_in_place hlock hat⟩

theorem hostRun_setalr (hlock : s.cri.bkpwe = true) (hp : s.boot.pos = .step 8) :
    MovesRun [.host] s ((s.withCri { s.cri with alarm := alarmSeed s.cfg }).hostGoto (.step 9)) :=
  .turn hp rfl fun _ hat => ⟨_, execSetalr_in_place hlock hat⟩

theorem hostRun_enirq (hlock : s.cri.bkpwe = true) (hp : s.boot.pos = .step 9) :
    MovesRun [.host] s ((s.withCri { s.cri with tickie := true, alrie := true }).hostGoto (.step 10)) :=
  .turn hp rfl fun _ hat => ⟨_, execEnirq_in_place hlock hat⟩

theorem hostRun_reghandler (hp : s.boot.pos = .step 10) :
    MovesRun [.host] s ((s.withSide { s.side with hreg := true }).hostGoto (.step 11)) :=
  .turn hp rfl fun _ hat => ⟨_, execReghandler_in_place hat⟩

theorem hostRun_wrsent (hlock : s.cri.bkpwe = true) (hp : s.boot.pos = .step 11) :
    MovesRun [.host] s ((s.withCri { s.cri with sent := s.cfg.sentinel }).hostGoto (.step 12)) :=
  .turn hp rfl fun _ hat => ⟨_, execWrsent_in_place hlock hat⟩

theorem hostRun_waitsync_clears (hp : s.boot.pos = .step 12) :
    MovesRun [.host] s ((s.withCri { s.cri with rsf := false }).hostGoto .syncWait) :=
  .turn hp rfl fun _ hat => ⟨_, execWaitsync_clears hat⟩

theorem hostRun_waitsync_passes (hsync : s.cri.rsf = true) (hp : s.boot.pos = .syncWait) :
    MovesRun [.host] s (s.hostGoto .done) :=
  .turn hp rfl fun _ hat => ⟨_, execWaitsync_passes hat hsync⟩

/-! ## The steps of the environment -/

theorem movesRun_ctrSync : MovesRun [.ctrSync] s (s.withCri { s.cri with rsf := true }) := fun p => ⟨p, rfl⟩

theorem movesRun_envOsc (h : s.cri.osc ≠ .none) : MovesRun [.envOsc] s (s.withEnv { s.env with oscReady := true }) :=
  fun p => ⟨p, runMoves_singleton (congrArg _ (envOsc_selected (s := s.withPort p) h))⟩

/-! ## The phases of INIT (R194) -/

/-- Steps 0 to 2: the domain is unlocked, and the causes and the sentinel decide where HOST goes on. -/
theorem hostRun_decide (hp : s.boot.pos = .step 0) {pos : HostPos}
    (hpos : (if coldStart s.env.por s.env.pinrst s.cri.sent s.cfg.sentinel then .step 3 else .step 12) = pos) :
    MovesRun [.host, .host, .host] s ((s.withCri { s.cri with bkpwe := true }).withBoot
      { s.boot with por := s.env.por, pin := s.env.pinrst, sent := s.cri.sent, pos := pos }) := by
  subst hpos
  exact ((hostRun_unlockbkp hp).trans (hostRun_rstcause rfl)).trans (hostRun_rdsent rfl)

/-- Steps 3 to 5: the domain is reset and the oscillator selected, which is ready at the first poll. -/
theorem hostRun_startOscillator (hlock : s.cri.bkpwe = true) (hp : s.boot.pos = .step 3) :
    MovesRun [.host, .host, .envOsc, .host] s ((((loseBackup s).withCri
      { (loseBackup s).cri with osc := oscOf s.cfg.oscSource }).withEnv { s.env with oscReady := true }).withBoot
        { s.boot with pos := .step 6, polls := 0 }) := by
  have hselected := (hostRun_rstbkp hlock hp).trans (hostRun_selosc hlock rfl)
  exact (hselected.trans (movesRun_envOsc (oscOf_ne_none _))).trans (hostRun_oscrdy rfl rfl)

/-- Steps 6 to 11: the prescaler, the counter, the deadline, the enables, the handler and the sentinel are written. -/
theorem hostRun_arm (hlock : s.cri.bkpwe = true) (hp : s.boot.pos = .step 6) :
    MovesRun [.host, .host, .host, .host, .host, .host] s (((s.withCri { s.cri with
      presc := truncTo s.cfg.prescW (prescDiv s.cfg), cnt := s.cfg.seed, alarm := alarmSeed s.cfg
      tickie := true, alrie := true, sent := s.cfg.sentinel }).withSide { s.side with hreg := true }).hostGoto
        (.step 12)) := by
  have hseeded := ((hostRun_cfgpre hlock hp).trans (hostRun_setcnt hlock rfl)).trans (hostRun_setalr hlock rfl)
  exact ((hseeded.trans (hostRun_enirq hlock rfl)).trans (hostRun_reghandler rfl)).trans (hostRun_wrsent hlock rfl)

/-- Step 12: RSF is cleared, and the next synchronisation ends INIT. -/
theorem hostRun_sync (hp : s.boot.pos = .step 12) :
    MovesRun [.host, .ctrSync, .host] s ((s.withCri { s.cri with rsf := true }).hostGoto .done) :=
  ((hostRun_waitsync_clears hp).trans movesRun_ctrSync).trans (hostRun_waitsync_passes rfl rfl)

/-! ## The statements -/

theorem prescDiv_lt {p : Params} (h : p.wf = true) : (prescDiv p).toNat < 2 ^ p.prescW := by
  simp only [Params.wf, Bool.and_eq_true, decide_eq_true_eq] at h
  obtain ⟨⟨⟨⟨-, hinternal⟩, hexternal⟩, -⟩, -⟩ := h
  unfold prescDiv
  split
  · exact hinternal
  · exact hexternal

/-- Settles O59: no cold start, so HOST goes from the decision to the wait for RSF. -/
theorem warmBootReseedsNothing : Obligations.WarmBootReseedsNothing := by
  intro s hp hsent hpin
  have hwarm : ¬ coldStart s.env.por s.env.pinrst s.cri.sent s.cfg.sentinel = true := by
    simp [coldStart_iff, hsent, hpin]
  obtain ⟨q, hq⟩ := ((hostRun_decide hp (if_neg hwarm)).trans (hostRun_sync rfl)) s.port
  exact ⟨_, hq, rfl, rfl, rfl, rfl, rfl⟩

/-- Settles O60: a cold start goes through all the phases of INIT; the divisor fits in PRESC by R8. -/
theorem coldStartArmsTheClock : Obligations.ColdStartArmsTheClock := by
  intro s hwf hp hcause
  have hdecide := hostRun_decide hp (if_pos (coldStart_iff.mpr hcause))
  have hrun := ((hdecide.trans (hostRun_startOscillator rfl rfl)).trans (hostRun_arm rfl rfl)).trans (hostRun_sync rfl)
  obtain ⟨q, hq⟩ := hrun s.port
  exact ⟨_, hq, rfl, rfl, rfl, rfl, rfl, truncTo_of_lt (prescDiv_lt hwf), rfl, rfl, rfl, rfl, rfl, rfl, rfl, rfl⟩

end Sys2Proof.Machine
end

section
/-! PROOFS. No operation traps (60_exceptions R214): an operation completes in its place and is refused out of it, so that a
step from a consistent state answers a next state or a refusal. -/

namespace Sys2Proof.Machine

variable {s : State} {i : Instr}

/-- Out of its place an operation is refused as misissued, or as locked where it is a backup-domain write (R68, R91;
log 24). -/
theorem exec_out_of_place_refused (h : ¬ s.InPlace i) :
    exec i s = .refused s.misissued ∨ exec i s = .refused .backupLocked := by
  cases i
  case cfgpre | setcnt | setalr | enirq | wrsent | rstbkp | selosc =>
    cases hlock : s.cri.bkpwe with
    | true => exact .inl (exec_out_of_place hlock h)
    | false => exact .inr (whenUnlocked_locked _ hlock)
  case rdh | rdl | clrtick | waitsync | setlvl =>
    obtain ⟨hfirst, hsecond⟩ := not_or.mp h
    exact .inl ((if_neg hfirst).trans (if_neg hsecond))
  case log => exact .inl (execLog_out_of_place h)
  all_goals exact .inl (if_neg h)

/-- From a consistent state an operation, wherever it is issued, completes or is refused: the tables are read only in
place, where the entry exists (R64). -/
theorem exec_ne_fault (hc : Consistent s) (i : Instr) (f : Fault) : exec i s ≠ .fault f := by
  by_cases h : s.InPlace i
  · obtain ⟨t, ht⟩ := exec_in_place hc h
    simp [ht]
  · obtain hmis | hlocked := exec_out_of_place_refused h
    · simp [hmis]
    · simp [hlocked]

/-- Any agent may issue any word: it is decoded to an operation, or it is reserved and refused (R90). -/
theorem issueWord_ne_fault (hc : Consistent s) (agent : Agent) (word : Byte) (arg : Arg) (f : Fault) :
    issueWord agent word arg s ≠ .fault f := by
  match hdec : decode word arg with
  | .ok i =>
    rw [issueWord_ok hdec]
    exact exec_ne_fault hc.withPort i f
  | .error (.reservedCode code) => simp [issueWord_reserved hdec]

theorem takeLine_ne_fault (hc : Consistent s) (l : Line) (f : Fault) : takeLine l s ≠ .fault f := by
  cases l with
  | move m =>
    obtain ⟨t, ht⟩ := takeMove_completes hc m
    simp [takeLine, ht]
  | op agent word arg => exact issueWord_ne_fault hc agent word arg f

/-- Settles O47: taking the line off keeps the state consistent, and then neither a move nor an issued word faults. -/
theorem consistentStatesNeverFault : Obligations.ConsistentStatesNeverFault :=
  fun s f hc => takeLine_ne_fault (lineTaken_consistent hc) (nextLine s) f

end Sys2Proof.Machine
end

section
/-! PROOFS. The resets (70_reset): what a system reset and the loss of the backup domain leave (R240 to R245), and that the
state after reset meets both invariants. -/

namespace Sys2Proof.Machine

/-! ## The state after reset -/

/-- The block has decoded nothing, HOST stands before UNLOCKBKP, and no oscillator is selected (R240, R241, R245). -/
theorem reset_consistent : Consistent State.reset where
  params := params_wf
  listed := rfl
  months := reset_mdays_wf
  prescaler := truncTo_lt (Nat.min_le_right _ _) (Config.free 2)
  unlocked := fun hp => absurd hp (by decide)
  enables := rfl
  oscillator := fun _ => rfl
  wait := fun hp => absurd hp (by decide)
  display := ⟨fun h => absurd h (by decide), fun h => absurd h (by decide)⟩
  decode := (BlockSound.outside (b := State.reset.blk) rfl reset_mdays_wf rfl).decode

/-- Nothing is shown, nothing is being drawn, and no line is left to come. -/
theorem reset_framesWhole : FramesWhole State.reset where
  moves := rfl
  panel := .inl rfl
  drawing := fun hst => absurd hst (by decide)
  committed := fun hp => absurd hp (by decide)

/-- Settles O45: the two invariants at the state after reset. -/
theorem resetStateIsConsistent : Obligations.ResetStateIsConsistent := ⟨reset_consistent, reset_framesWhole⟩

/-! ## The two reset events -/

/-- With parameters of R8 the reset value of the sentinel's register is not the sentinel (R243). -/
theorem bkpReset_ne_sentinel {p : Params} (h : p.wf = true) : p.bkpReset ≠ p.sentinel := by
  simp only [Params.wf, Bool.and_eq_true, bne_iff_ne] at h
  obtain ⟨⟨⟨⟨⟨hne, -⟩, -⟩, -⟩, -⟩, -⟩ := h
  exact hne.symm

/-- Settles O42: of the Counter Register Interface a system reset writes BKPWE and RSF alone (`systemReset_cri`). -/
theorem systemResetKeepsTheBackupDomain : Obligations.SystemResetKeepsTheBackupDomain := fun s por pin =>
  ⟨systemReset por pin s, rfl, rfl, rfl, systemReset_env por pin s, systemReset_cri por pin s, rfl, rfl, rfl, rfl, rfl,
    systemReset_cfg por pin s⟩

/-- Settles O43: the system reset keeps what the loss of the domain has written (`loseBackup_cri`, `loseBackup_env`). -/
theorem backupLossMakesTheSentinelAbsent : Obligations.BackupLossMakesTheSentinelAbsent := by
  intro s por pin hwf
  have hcri : (backupLoss por pin s).cri = { s.cri with
      sent := s.cfg.bkpReset, cnt := s.draw 0, alarm := s.draw 1, presc := truncTo s.cfg.prescW (s.draw 2)
      osc := .none, tickie := false, alrie := false, tickf := false, alrf := false
      bkpwe := false, rsf := (loseBackup s).drawBit 26 } := by
    rw [backupLoss, systemReset_cri, loseBackup_cri]
  refine ⟨backupLoss por pin s, rfl, ?_⟩
  rw [hcri]
  exact ⟨rfl, bkpReset_ne_sentinel hwf, rfl, rfl, rfl, rfl, rfl, rfl, rfl, rfl, rfl⟩

end Sys2Proof.Machine
end

section
/-! PROOFS. Every invocation of the block returns (60_exceptions R263): a bound on the turns that SEQ still needs, which
every turn of SEQ outside Idle lowers. -/

namespace Sys2Proof.Machine

variable {s t : State}

/-! ## The bound -/

/-- The turns of Rendering: with clear point ENTRY the path ends with COMMIT, else with CLRTICK (R158). -/
def renderTurns (p : Params) : Nat :=
  match p.clearPoint with
  | .entry => 5
  | .exit => 6

/-- The turns of Decoding that are left at most. In the year loop there is one for each year up to 2106, the last one that a
32-bit counter value reaches (R125, R133), so that 137 are counted before the loop begins. -/
def decodeTurns (b : Block) : Nat :=
  if b.pc.step.toNat < 4 then 144 - b.pc.step.toNat
  else if b.pc.step.toNat = 4 then 2110 - b.cm.year.toNat
  else 8 - b.pc.step.toNat

/-- How many turns of SEQ bring pc to (Idle,0) at most. -/
def turnsLeft (s : State) : Nat :=
  match s.blk.pc.state with
  | .idle => 0
  | .entry =>
    if s.blk.pc.step.toNat < 2 then 157 - s.blk.pc.step.toNat
    else if s.blk.ready then 150 + renderTurns s.cfg
    else 1
  | .reading => 149 - s.blk.pc.step.toNat + renderTurns s.cfg
  | .decoding => decodeTurns s.blk + renderTurns s.cfg
  | .rendering => max 1 (renderTurns s.cfg - s.blk.pc.step.toNat)
  | .alarmHandling => 3 - s.blk.pc.step.toNat

theorem renderTurns_entry {p : Params} (h : p.clearPoint = .entry) : renderTurns p = 5 := by rw [renderTurns, h]
theorem renderTurns_exit {p : Params} (h : p.clearPoint = .exit) : renderTurns p = 6 := by rw [renderTurns, h]

theorem renderTurns_bounds (p : Params) : 5 ≤ renderTurns p ∧ renderTurns p ≤ 6 := by
  unfold renderTurns
  split <;> decide

theorem renderTurns_pos (p : Params) : 0 < renderTurns p := Nat.lt_of_lt_of_le (by decide) (renderTurns_bounds p).1

theorem decodeTurns_loop {b : Block} (hk : b.pc.step.toNat = 4) : decodeTurns b = 2110 - b.cm.year.toNat := by
  simp [decodeTurns, hk]

theorem turnsLeft_decoding (hst : s.blk.pc.state = .decoding) :
    turnsLeft s = decodeTurns s.blk + renderTurns s.cfg := by rw [turnsLeft, hst]

/-- The last step of each state in R170. -/
def lastStep (st : SeqState) : Nat :=
  match st with
  | .idle => 0
  | .entry => 2
  | .reading => 4
  | .decoding => 7
  | .rendering => 5
  | .alarmHandling => 2

theorem listedPc_iff {p : Pc} : listedPc p = true ↔ p.step.toNat ≤ lastStep p.state := by
  obtain ⟨st, k⟩ := p
  cases st <;> simp [listedPc, lastStep]

theorem Consistent.step_le {st : SeqState} (hc : Consistent s) (hst : s.blk.pc.state = st) :
    s.blk.pc.step.toNat ≤ lastStep st := hst ▸ listedPc_iff.mp hc.listed

/-- In the year loop the year is one that R133 allows. -/
theorem Consistent.year_bounds (hc : Consistent s) (hst : s.blk.pc.state = .decoding) (hk : s.blk.pc.step.toNat = 4) :
    1970 ≤ s.blk.cm.year.toNat ∧ s.blk.cm.year.toNat ≤ 2106 := by
  have hstage : decodeStage s.blk.pc = 4 := by rw [Pc.eq_mk hst hk]; rfl
  obtain ⟨-, -, -, hdays⟩ := hc.decode.clock (by omega)
  obtain ⟨hyear, -, hsum, -⟩ := hc.decode.years (by omega)
  have hbound := years_lt_of_word (hsum.trans hdays)
  omega

theorem Consistent.decodeTurns_le (hc : Consistent s) (hst : s.blk.pc.state = .decoding) : decodeTurns s.blk ≤ 144 := by
  unfold decodeTurns
  split_ifs with hbefore hloop
  · omega
  · have hyear := hc.year_bounds hst hloop
    omega
  · omega

theorem Consistent.turnsLeft_le (hc : Consistent s) : turnsLeft s ≤ 157 := by
  have hr := renderTurns_bounds s.cfg
  unfold turnsLeft
  cases hst : s.blk.pc.state
  case decoding =>
    have hd := hc.decodeTurns_le hst
    dsimp only
    omega
  case entry =>
    dsimp only
    split_ifs <;> omega
  all_goals
    dsimp only
    omega

/-! ## What a turn of SEQ leaves for the bound -/

theorem seqMove_cfg (h : seqMove s = .next t) : t.cfg = s.cfg := by
  obtain ⟨-, rfl⟩ | ⟨-, i, -, hx⟩ := seqMove_cases h
  · split <;> rfl
  · obtain ⟨-, -, -, -, -, hcfg⟩ := exec_registers hx
    exact hcfg

/-- DSPRDY's answer is remembered (R152). -/
theorem seqMove_ready (hp : s.blk.pc = ⟨.entry, 1#4⟩) (h : seqMove s = .next t) :
    t.blk.ready = s.side.displayReady := by
  rw [seqMove_at (i := .dsprdy) hp (by decide) rfl] at h
  obtain rfl := Host.Outcome.next.inj ((execDsprdy_in_place (s := issued .seq .dsprdy s) ⟨rfl, hp⟩).symm.trans h)
  rfl

/-- YEARSTEP that stays in the loop goes on to the next year (R125). -/
theorem seqMove_year (hp : s.blk.pc = ⟨.decoding, 4#4⟩) (hd : ylen s.blk.leap ≤ s.blk.d.toNat)
    (h : seqMove s = .next t) : t.blk.cm.year = s.blk.cm.year + 1#16 := by
  rw [seqMove_at (i := .yearstep) hp (by decide) rfl] at h
  obtain rfl := Host.Outcome.next.inj ((execYearstep_subtracts (s := issued .seq .yearstep s) ⟨rfl, hp⟩ hd).symm.trans h)
  rfl

/-- What a turn of SEQ from a consistent state outside Idle gives for the bound. -/
structure SeqTurn (s t : State) : Prop where
  before : Consistent s
  after : Consistent t
  cfg : t.cfg = s.cfg
  pc : t.blk.pc = tableNext s t
  ready : s.blk.pc = ⟨.entry, 1#4⟩ → t.blk.ready = s.side.displayReady
  year : s.blk.pc = ⟨.decoding, 4#4⟩ → ylen s.blk.leap ≤ s.blk.d.toNat → t.blk.cm.year = s.blk.cm.year + 1#16

theorem Consistent.exists_seqTurn (hc : Consistent s) (hp : s.blk.pc ≠ ⟨.idle, 0#4⟩) :
    ∃ t, takeMove .seq s = .next t ∧ SeqTurn s t := by
  obtain ⟨t, h⟩ := seqMove_completes hc
  exact ⟨t, h, hc, seqMove_consistent hc t h, seqMove_cfg h, (seqMove_followsTable hp h).pc,
    fun hentry => seqMove_ready hentry h, fun hloop hd => seqMove_year hloop hd h⟩

/-! ## Every turn lowers the bound -/

namespace SeqTurn

/-- In Entry: under clear point EXIT only an unready display leads to (Entry,2), from where the path is then skipped. -/
theorem lowers_entry (h : SeqTurn s t) (hst : s.blk.pc.state = .entry) : turnsLeft t < turnsLeft s := by
  have hpc := h.pc
  have hl : s.blk.pc.step.toNat ≤ 2 := h.before.step_le hst
  match hk : s.blk.pc.step.toNat, hl with
  | 0, _ =>
    simp only [tableNext, hst, hk] at hpc
    split_ifs at hpc <;> simp [turnsLeft, hpc, hst, hk]
  | 1, _ =>
    have hready := h.ready (Pc.eq_mk hst hk)
    simp only [tableNext, hst, hk] at hpc
    cases hclear : s.cfg.clearPoint with
    | entry =>
      rw [if_pos (.inr hclear)] at hpc
      cases hfound : t.blk.ready <;> simp [turnsLeft, hpc, hst, hk, h.cfg, hfound, renderTurns_entry hclear]
    | exit =>
      cases hdisplay : s.side.displayReady
      all_goals
        simp only [hclear, hdisplay, reduceCtorEq, or_self, or_false, if_true, if_false] at hpc
        simp [turnsLeft, hpc, hst, hk, h.cfg, hready, hdisplay, renderTurns_exit hclear]
  | 2, _ =>
    simp only [tableNext, hst, hk] at hpc
    split_ifs at hpc with hready <;> simp [turnsLeft, hpc, hst, hk, h.cfg, hready]

theorem lowers_reading (h : SeqTurn s t) (hst : s.blk.pc.state = .reading) : turnsLeft t < turnsLeft s := by
  have hpc := h.pc
  have hl : s.blk.pc.step.toNat ≤ 4 := h.before.step_le hst
  match hk : s.blk.pc.step.toNat, hl with
  | 2, _ =>
    simp only [tableNext, hst, hk] at hpc
    split_ifs at hpc <;> simp [turnsLeft, hpc, hst, hk, h.cfg]
  | 0, _ | 1, _ | 3, _ | 4, _ =>
    simp only [tableNext, hst, hk] at hpc
    simp [turnsLeft, decodeTurns, hpc, hst, hk, h.cfg]

/-- YEARINIT leads into the year loop, where the years up to 2106 are counted from the year as it is found. -/
theorem lowers_yearinit (h : SeqTurn s t) (hst : s.blk.pc.state = .decoding) (hk : s.blk.pc.step.toNat = 3) :
    turnsLeft t < turnsLeft s := by
  have hpc : t.blk.pc = ⟨.decoding, 4#4⟩ := h.pc.trans (tableNext_at (Pc.eq_mk hst hk))
  have hyear := h.after.year_bounds (by rw [hpc]) (by rw [hpc]; rfl)
  have hbefore : decodeTurns s.blk = 141 := by simp [decodeTurns, hk]
  have hafter := decodeTurns_loop (b := t.blk) (by rw [hpc]; rfl)
  rw [turnsLeft_decoding hst, turnsLeft_decoding (by rw [hpc]), h.cfg]
  omega

/-- A turn of the year loop goes on to a year that is still one of R133, or leaves the loop. -/
theorem lowers_yearLoop (h : SeqTurn s t) (hst : s.blk.pc.state = .decoding) (hk : s.blk.pc.step.toNat = 4) :
    turnsLeft t < turnsLeft s := by
  have hp := Pc.eq_mk hst hk
  have hyear := h.before.year_bounds hst hk
  have hbefore := decodeTurns_loop hk
  by_cases hd : ylen s.blk.leap ≤ s.blk.d.toNat
  · have hpc : t.blk.pc = ⟨.decoding, 4#4⟩ := (h.pc.trans (tableNext_at hp)).trans (if_pos hd)
    have hafter := decodeTurns_loop (b := t.blk) (by rw [hpc]; rfl)
    have hnext : t.blk.cm.year.toNat = s.blk.cm.year.toNat + 1 := by
      rw [h.year hp hd, BitVec.toNat_add, BitVec.toNat_ofNat]
      omega
    rw [turnsLeft_decoding hst, turnsLeft_decoding (by rw [hpc]), h.cfg]
    omega
  · have hpc : t.blk.pc = ⟨.decoding, 5#4⟩ := (h.pc.trans (tableNext_at hp)).trans (if_neg hd)
    have hafter : decodeTurns t.blk = 3 := by simp [decodeTurns, hpc]
    rw [turnsLeft_decoding hst, turnsLeft_decoding (by rw [hpc]), h.cfg]
    omega

theorem lowers_decoding (h : SeqTurn s t) (hst : s.blk.pc.state = .decoding) : turnsLeft t < turnsLeft s := by
  have hpc := h.pc
  have hl : s.blk.pc.step.toNat ≤ 7 := h.before.step_le hst
  match hk : s.blk.pc.step.toNat, hl with
  | 3, _ => exact h.lowers_yearinit hst hk
  | 4, _ => exact h.lowers_yearLoop hst hk
  | 0, _ | 1, _ | 2, _ | 5, _ | 6, _ | 7, _ =>
    simp only [tableNext, hst, hk] at hpc
    simp [turnsLeft, decodeTurns, hpc, hst, hk, h.cfg, BitVec.toNat_add, renderTurns_pos]

theorem lowers_rendering (h : SeqTurn s t) (hst : s.blk.pc.state = .rendering) : turnsLeft t < turnsLeft s := by
  have hpc := h.pc
  have hr := renderTurns_bounds s.cfg
  have hl : s.blk.pc.step.toNat ≤ 5 := h.before.step_le hst
  match hk : s.blk.pc.step.toNat, hl with
  | 4, _ =>
    simp only [tableNext, hst, hk] at hpc
    split_ifs at hpc with hclear
    · simp [turnsLeft, hpc, hst, hk, h.cfg, renderTurns_exit hclear]
    · simp [turnsLeft, hpc, hst, hk]
  | 0, _ | 1, _ | 2, _ | 3, _ | 5, _ =>
    simp only [tableNext, hst, hk] at hpc
    simp only [turnsLeft, hpc, hst, hk, h.cfg, BitVec.toNat_add, BitVec.reduceToNat]
    omega

theorem lowers_alarmHandling (h : SeqTurn s t) (hst : s.blk.pc.state = .alarmHandling) : turnsLeft t < turnsLeft s := by
  have hpc := h.pc
  have hl : s.blk.pc.step.toNat ≤ 2 := h.before.step_le hst
  interval_cases hk : s.blk.pc.step.toNat
  all_goals
    simp only [tableNext, hst, hk] at hpc
    simp [turnsLeft, hpc, hst, hk, BitVec.toNat_add]

theorem turnsLeft_lt (h : SeqTurn s t) (hp : s.blk.pc ≠ ⟨.idle, 0#4⟩) : turnsLeft t < turnsLeft s := by
  cases hst : s.blk.pc.state with
  | idle => exact absurd (Pc.eq_mk hst (Nat.le_zero.mp (h.before.step_le hst))) hp
  | entry => exact h.lowers_entry hst
  | reading => exact h.lowers_reading hst
  | decoding => exact h.lowers_decoding hst
  | rendering => exact h.lowers_rendering hst
  | alarmHandling => exact h.lowers_alarmHandling hst

end SeqTurn

/-! ## The return -/

/-- SEQ alone is back at (Idle,0) after as many turns as the bound says, or earlier. -/
theorem Consistent.returns (hc : Consistent s) :
    ∃ n t, n ≤ turnsLeft s ∧ runMoves (List.replicate n .seq) s = .next t ∧ t.blk.pc = ⟨.idle, 0#4⟩ := by
  induction hbound : turnsLeft s using Nat.strong_induction_on generalizing s with
  | h bound ih =>
    by_cases hp : s.blk.pc = ⟨.idle, 0#4⟩
    · exact ⟨0, s, Nat.zero_le _, rfl, hp⟩
    · obtain ⟨t, hmove, hturn⟩ := hc.exists_seqTurn hp
      have hlt : turnsLeft t < bound := hbound ▸ hturn.turnsLeft_lt hp
      obtain ⟨n, u, hn, hrun, hidle⟩ := ih _ hlt hturn.after rfl
      exact ⟨n + 1, u, Nat.succ_le_of_lt (Nat.lt_of_le_of_lt hn hlt),
        (runMoves_append (runMoves_singleton hmove)).trans hrun, hidle⟩

/-- Settles O57: the bound is at most 157 in every consistent state. -/
theorem everyInvocationReturns : Obligations.EveryInvocationReturns := by
  intro s hc
  obtain ⟨n, t, hn, hrun, hidle⟩ := hc.returns
  exact ⟨n, t, hn.trans hc.turnsLeft_le, hrun, hidle⟩

end Sys2Proof.Machine
end
